-- ==== Sys2Proof/Word.lean ====
section
/-! DEFINITION. The machine's words and the two operand widths (00_scope.md R5, R7). -/

namespace Sys2Proof

/-- One byte: the unit of memory, of PG, of DT and of an operand byte (R40, R10). -/
abbrev Byte := BitVec 8

/-- A 16-bit word: A, B, X, Y, S, DPR, PC and 16-bit data (R5, R10). -/
abbrev Word := BitVec 16

/-- A 24-bit address, bits 23 to 16 the bank (R40). -/
abbrev Addr := BitVec 24

/-- The two operand widths a width flag selects: flag 1 is 8 bits, flag 0 is 16 bits (R5, R7). -/
inductive Width where
  | w8
  | w16
deriving DecidableEq, Repr

end Sys2Proof
end

