-- ==== Sys2Proof/Machine/Bits.lean ====
section
/-! DEFINITION. Byte order, concatenation and the width-dependent views of a 16-bit word (00_scope.md R7). -/

namespace Sys2Proof.Machine

/-- `RL`, bits 7 to 0 (R7). -/
def lowByte (v : Word) : Byte := v.extractLsb' 0 8

/-- `RH`, bits 15 to 8 (R7). -/
def highByte (v : Word) : Byte := v.extractLsb' 8 8

/-- `hi : lo` as a 16-bit word (R7). -/
def wordOf (hi lo : Byte) : Word := hi ++ lo

/-- `bank : offset` as a 24-bit address (R7, R40). -/
def addrOf (bank : Byte) (offset : Word) : Addr := bank ++ offset

/-- Bits 23 to 16 of an address (R40). -/
def bankOf (a : Addr) : Byte := a.extractLsb' 16 8

/-- Bits 15 to 0 of an address (R40). -/
def offsetOf (a : Addr) : Word := a.extractLsb' 0 16

/-- `zext_24` of a word (R7). -/
def addrOfWord (v : Word) : Addr := v.setWidth 24

/-- `zext_24` of a byte (R7, R75: `dd` and `nn` are unsigned offsets). -/
def addrOfByte (v : Byte) : Addr := v.setWidth 24

/-- `zext_16` of a byte (R7). -/
def wordOfByte (v : Byte) : Word := v.setWidth 16

/-- Bits in an operand of width `w` (R7). -/
def bitsOf : Width → Nat
  | .w8 => 8
  | .w16 => 16

/-- Bytes in an operand of width `w` (R45). -/
def bytesOf : Width → Nat
  | .w8 => 1
  | .w16 => 2

/-- The width a width flag selects: 1 is 8 bits, 0 is 16 bits (R5). -/
def widthOf (flag : Bool) : Width := if flag then .w8 else .w16

/-- `v[w-1:0]`, zero-extended to a word (R7). -/
def truncTo (w : Width) (v : Word) : Word :=
  match w with
  | .w8 => wordOfByte (lowByte v)
  | .w16 => v

/-- `v[w-1]` (R7). -/
def topBit (w : Width) (v : Word) : Bool := v.getLsbD (bitsOf w - 1)

/-- Write `v[w-1:0]` into a register that holds `old`: an 8-bit write leaves the high byte (R11, R12). -/
def mergeLow (w : Width) (old v : Word) : Word :=
  match w with
  | .w8 => wordOf (highByte old) (lowByte v)
  | .w16 => v

/-- `n` modulo `2^w` as a word: narrowing an exact result (R7). -/
def narrow (w : Width) (n : Nat) : Word := BitVec.ofNat 16 (n % 2 ^ bitsOf w)

end Sys2Proof.Machine
end

