-- ==== Sys2Proof/Syntax.lean ====
section
/-! DEFINITION. The instructions (30_encoding.md R70 to R111).

There is one constructor for each of the 103 mnemonics of spec/opcode_table.json. A row of the table is a constructor with its
accumulator (rows with "accumulator" A or B that share a mnemonic) and its addressing mode (the row's "format") as arguments;
WellFormed.lean says which modes each mnemonic has, so the well-formed terms, operand bytes apart, are the 421 rows. -/

namespace Sys2Proof

/-- Accumulator A or B (R73: `Acc`). -/
inductive Acc where
  | a
  | b
deriving DecidableEq, Repr

/-- The addressing modes that name a datum in memory, each with its operand bytes (R75): `dd`, `nn` one byte, `mmll` = mm:ll,
`hhmmll` = hh:mm:ll. -/
inductive MemMode where
  /-- DIR, and DIR,b and DIR,b,REL (R86, R102, R104). -/
  | dir (dd : Byte)
  /-- DIR,X (R87). -/
  | dirX (dd : Byte)
  /-- DIR,Y (R87). -/
  | dirY (dd : Byte)
  /-- (DIR) (R88). -/
  | dirInd (dd : Byte)
  /-- (DIR,X) (R89). -/
  | dirXInd (dd : Byte)
  /-- (DIR),Y (R90). -/
  | dirIndY (dd : Byte)
  /-- L(DIR) (R91). -/
  | dirIndL (dd : Byte)
  /-- L(DIR),Y (R92). -/
  | dirIndLY (dd : Byte)
  /-- ABS, and ABS,b and ABS,b,REL (R93, R103, R105). -/
  | abs (mmll : Word)
  /-- ABS,X (R94). -/
  | absX (mmll : Word)
  /-- ABS,Y (R94). -/
  | absY (mmll : Word)
  /-- ABL (R95). -/
  | abl (hhmmll : Addr)
  /-- ABL,X (R96). -/
  | ablX (hhmmll : Addr)
  /-- SR (R106). -/
  | sr (nn : Byte)
  /-- (SR),Y (R107). -/
  | srIndY (nn : Byte)
deriving DecidableEq, Repr

/-- A source operand: IMM or a datum in memory (R85). An immediate whose width flag m or x selects (R76) is held as a word;
where the flag selects 8 bits its upper byte is 0 (WellFormed.lean). -/
inductive Operand where
  | imm (v : Word)
  | mem (o : MemMode)
deriving DecidableEq, Repr

/-- The operand of a read-modify-write instruction: mode A or a datum in memory (R152, R180). -/
inductive Dest where
  | acc (r : Acc)
  | mem (o : MemMode)
deriving DecidableEq, Repr

/-- The modes of JMP (R97, R98, R99, R212). -/
inductive JumpMode where
  /-- ABS. -/
  | abs (mmll : Word)
  /-- ABL. -/
  | abl (hhmmll : Addr)
  /-- (ABS). -/
  | absInd (mmll : Word)
  /-- L(ABS). -/
  | absIndL (mmll : Word)
  /-- (ABS,X). -/
  | absXInd (mmll : Word)
deriving DecidableEq, Repr

/-- The modes of JSR (R99, R213). -/
inductive CallMode where
  /-- ABS. -/
  | abs (mmll : Word)
  /-- ABL. -/
  | abl (hhmmll : Addr)
  /-- (ABS,X). -/
  | absXInd (mmll : Word)
deriving DecidableEq, Repr

/-- The displacement of BRA: code 80 or code 82 (R209). -/
inductive Displacement where
  | short (rr : Byte)
  | long (rr : Word)
deriving DecidableEq, Repr

inductive Instr where
  -- 40_load_store.md
  | lda (r : Acc) (o : Operand)
  | ldm (o : MemMode) (imm : Word)
  | ldt (imm : Byte)
  | ldx (o : Operand)
  | ldy (o : Operand)
  | sta (r : Acc) (o : MemMode)
  | stx (o : MemMode)
  | sty (o : MemMode)
  -- 41_arith_logic.md
  | adc (r : Acc) (o : Operand)
  | sbc (r : Acc) (o : Operand)
  | cmp (r : Acc) (o : Operand)
  | cpx (o : Operand)
  | cpy (o : Operand)
  | and (r : Acc) (o : Operand)
  | ora (r : Acc) (o : Operand)
  | eor (r : Acc) (o : Operand)
  | inc (d : Dest)
  | dec (d : Dest)
  | inx
  | iny
  | dex
  | dey
  -- 42_shift_rotate.md
  | asl (d : Dest)
  | lsr (d : Dest)
  | rol (d : Dest)
  | ror (d : Dest)
  | rla (imm : Word)
  -- 43_muldiv.md
  | mpy (o : Operand)
  | div (o : Operand)
  -- 44_branch_jump.md
  | bcc (rr : Byte)
  | bcs (rr : Byte)
  | beq (rr : Byte)
  | bmi (rr : Byte)
  | bne (rr : Byte)
  | bpl (rr : Byte)
  | bvc (rr : Byte)
  | bvs (rr : Byte)
  | bra (d : Displacement)
  | bbs (o : MemMode) (imm : Word) (rr : Byte)
  | bbc (o : MemMode) (imm : Word) (rr : Byte)
  | jmp (t : JumpMode)
  | jsr (t : CallMode)
  | rts
  | rtl
  -- 45_stack.md
  | pha
  | phb
  | phd
  | phg
  | php
  | pht
  | phx
  | phy
  | pla
  | plb
  | pld
  | plp
  | plt
  | plx
  | ply
  /-- The operand is the instruction's third byte and second byte, in this order (R109, R250). -/
  | pea (imm : Word)
  | pei (dd : Byte)
  /-- The operand is the instruction's third byte and second byte, in this order (R109, R252). -/
  | per (imm : Word)
  | psh (nn : Byte)
  | pul (nn : Byte)
  -- 46_transfer.md
  | tad
  | tbd
  | tas
  | tbs
  | tax
  | tay
  | tbx
  | tby
  | tda
  | tdb
  | tsa
  | tsb
  | tsx
  | txa
  | txb
  | txs
  | txy
  | tya
  | tyb
  | tyx
  | xab
  -- 47_flag_bit.md
  | clc
  | cli
  | clm
  | clv
  | clp (imm : Byte)
  | sec
  | sei
  | sem
  | sep (imm : Byte)
  | seb (o : MemMode) (imm : Word)
  | clb (o : MemMode) (imm : Word)
  -- 48_block_misc.md
  | mvn (n1 : Byte) (n2 : Byte)
  | mvp (n1 : Byte) (n2 : Byte)
  | nop
  -- 60_exceptions.md
  /-- `nn` is the ignored second byte (R340). -/
  | brk (nn : Byte)
  | rti
  | stp
  | wit
deriving DecidableEq, Repr

end Sys2Proof
end

