-- ==== Sys2Proof/WellFormed.lean ====
section
/-! DEFINITION. Which instructions are well formed under the width flags m and x: the addressing mode is one that the mnemonic
has a row for (30_encoding.md R78, R80, R81, R86 to R107), and an immediate whose width a flag selects has that width (R71, R76). -/

namespace Sys2Proof

/-- An immediate fits the width its flag selects: 8 bits when the flag is 1, 16 bits when it is 0 (R76). -/
def immFits (flag : Bool) (imm : Word) : Bool := !flag || decide (imm.toNat < 256)

/-- The fourteen memory modes of the accumulator instructions, MPY and DIV: all but DIR,Y (R77, R140). -/
def MemMode.isAccMode : MemMode → Bool
  | .dirY _ => false
  | _ => true

/-- DIR, DIR,X, ABS, ABS,X: INC, DEC, the shifts and LDM (R122, R152, R180). -/
def MemMode.isXMode : MemMode → Bool
  | .dir _ | .dirX _ | .abs _ | .absX _ => true
  | _ => false

/-- DIR, DIR,Y, ABS, ABS,Y: LDX (R124). -/
def MemMode.isYMode : MemMode → Bool
  | .dir _ | .dirY _ | .abs _ | .absY _ => true
  | _ => false

/-- DIR, DIR,X, ABS: STY (R128). -/
def MemMode.isStyMode : MemMode → Bool
  | .dir _ | .dirX _ | .abs _ => true
  | _ => false

/-- DIR, DIR,Y, ABS: STX (R127). -/
def MemMode.isStxMode : MemMode → Bool
  | .dir _ | .dirY _ | .abs _ => true
  | _ => false

/-- DIR, ABS: CPX, CPY, and the bit modes DIR,b, ABS,b, DIR,b,REL, ABS,b,REL (R102 to R105, R146). -/
def MemMode.isPlainMode : MemMode → Bool
  | .dir _ | .abs _ => true
  | _ => false

/-- An operand whose immediate has the width of the flag and whose memory mode is allowed. -/
def Operand.fits (flag : Bool) (allowed : MemMode → Bool) : Operand → Bool
  | .imm v => immFits flag v
  | .mem o => allowed o

/-- Mode A or one of the four memory modes of a read-modify-write instruction (R152, R180). -/
def Dest.fits : Dest → Bool
  | .acc _ => true
  | .mem o => o.isXMode

/-- The instruction is well formed when the flags are `m` and `x`. -/
def Instr.wf (m x : Bool) : Instr → Bool
  | .lda _ o | .adc _ o | .sbc _ o | .cmp _ o | .and _ o | .ora _ o | .eor _ o => o.fits m MemMode.isAccMode
  | .mpy o | .div o => o.fits m MemMode.isAccMode
  | .sta _ o => o.isAccMode
  | .ldm o imm => o.isXMode && immFits m imm
  | .ldx o => o.fits x MemMode.isYMode
  | .ldy o => o.fits x MemMode.isXMode
  | .stx o => o.isStxMode
  | .sty o => o.isStyMode
  | .cpx o | .cpy o => o.fits x MemMode.isPlainMode
  | .inc d | .dec d | .asl d | .lsr d | .rol d | .ror d => d.fits
  | .rla imm => immFits m imm
  | .bbs o imm _ | .bbc o imm _ => o.isPlainMode && immFits m imm
  | .seb o imm | .clb o imm => o.isPlainMode && immFits m imm
  | .ldt _ | .inx | .iny | .dex | .dey | .bcc _ | .bcs _ | .beq _ | .bmi _ | .bne _ | .bpl _ | .bvc _ | .bvs _ | .bra _
  | .jmp _ | .jsr _ | .rts | .rtl | .pha | .phb | .phd | .phg | .php | .pht | .phx | .phy | .pla | .plb | .pld | .plp | .plt | .plx
  | .ply | .pea _ | .pei _ | .per _ | .psh _ | .pul _ | .tad | .tbd | .tas | .tbs | .tax | .tay | .tbx | .tby | .tda | .tdb
  | .tsa | .tsb | .tsx | .txa | .txb | .txs | .txy | .tya | .tyb | .tyx | .xab | .clc | .cli | .clm | .clv | .clp _ | .sec
  | .sei | .sem | .sep _ | .mvn _ _ | .mvp _ _ | .nop | .brk _ | .rti | .stp | .wit => true

end Sys2Proof
end

