-- ==== Sys2Proof/Decode.lean ====
section
/-! DEFINITION. The decoder (30_encoding.md R72), total on any bytes and rejecting by name, then the encoder written from the
same tables (R71, R78, R80, R81). -/

namespace Sys2Proof

/-- Why bytes are no instruction. -/
inductive DecodeError where
  /-- The instruction needs more bytes than there are. -/
  | truncated
  /-- The first byte has no entry in Table 1 (R79). -/
  | code1 (code : Byte)
  /-- The byte after 42 has no entry in Table 2 (R79). -/
  | code2 (code : Byte)
  /-- The byte after 89 has no entry in Table 3 (R79). -/
  | code3 (code : Byte)
deriving DecidableEq, Repr

/-- What the decoder answers: an instruction and the bytes after it, or why there is none. -/
inductive Decoded where
  | ok (i : Instr) (rest : List Byte)
  | bad (e : DecodeError)
deriving DecidableEq, Repr

/-- Reads operand bytes. -/
abbrev Reader := List Byte → Decoded

/-- No operand byte. -/
def arg0 (i : Instr) : Reader := fun bytes => .ok i bytes

/-- One operand byte. -/
def arg8 (k : Byte → Instr) : Reader
  | b :: rest => .ok (k b) rest
  | _ => .bad .truncated

/-- Two operand bytes, one 16-bit operand, low byte first (R42). -/
def arg16 (k : Word → Instr) : Reader
  | l :: h :: rest => .ok (k (Machine.wordOf h l)) rest
  | _ => .bad .truncated

/-- Three operand bytes ll, mm, hh, one 24-bit address (R42). -/
def arg24 (k : Addr → Instr) : Reader
  | l :: m :: h :: rest => .ok (k (Machine.addrOf h (Machine.wordOf m l))) rest
  | _ => .bad .truncated

/-- An immediate whose width the flag selects: one byte when it is 1, two when it is 0 (R71, R76). -/
def argImm (flag : Bool) (k : Word → Instr) : Reader :=
  if flag then arg8 (fun b => k (Machine.wordOfByte b)) else arg16 k

/-- One byte, then an immediate. -/
def arg8Imm (flag : Bool) (k : Byte → Word → Instr) : Reader
  | b :: rest => argImm flag (k b) rest
  | _ => .bad .truncated

/-- A 16-bit address, then an immediate. -/
def arg16Imm (flag : Bool) (k : Word → Word → Instr) : Reader
  | l :: h :: rest => argImm flag (k (Machine.wordOf h l)) rest
  | _ => .bad .truncated

/-- Two bytes, each an operand. -/
def arg8Arg8 (k : Byte → Byte → Instr) : Reader
  | b :: c :: rest => .ok (k b c) rest
  | _ => .bad .truncated

/-- An immediate, then a displacement byte (R104, R105). -/
def argImmRel (flag : Bool) (k : Word → Byte → Instr) : Reader :=
  if flag then arg8Arg8 (fun b r => k (Machine.wordOfByte b) r)
  else fun
    | l :: h :: r :: rest => .ok (k (Machine.wordOf h l) r) rest
    | _ => .bad .truncated

/-- One byte, an immediate, then a displacement byte (R104). -/
def arg8ImmRel (flag : Bool) (k : Byte → Word → Byte → Instr) : Reader
  | b :: rest => argImmRel flag (k b) rest
  | _ => .bad .truncated

/-- A 16-bit address, an immediate, then a displacement byte (R105). -/
def arg16ImmRel (flag : Bool) (k : Word → Word → Byte → Instr) : Reader
  | l :: h :: rest => argImmRel flag (k (Machine.wordOf h l)) rest
  | _ => .bad .truncated

/-- A code with no entry in the table consulted (R79). -/
def unassigned (e : DecodeError) : Reader := fun _ => .bad e

/-- Row 0 of INSTRUCTION CODE TABLE-1 (R78). -/
def table1Row0 (m _x : Bool) (column : Nat) : Reader :=
  match column with
  | 0x0 => arg8 .brk
  | 0x1 => arg8 fun dd => .ora .a (.mem (.dirXInd dd))
  | 0x3 => arg8 fun nn => .ora .a (.mem (.sr nn))
  | 0x4 => arg8Imm m fun dd imm => .seb (.dir dd) imm
  | 0x5 => arg8 fun dd => .ora .a (.mem (.dir dd))
  | 0x6 => arg8 fun dd => .asl (.mem (.dir dd))
  | 0x7 => arg8 fun dd => .ora .a (.mem (.dirIndL dd))
  | 0x8 => arg0 .php
  | 0x9 => argImm m fun imm => .ora .a (.imm imm)
  | 0xA => arg0 (.asl (.acc .a))
  | 0xB => arg0 .phd
  | 0xC => arg16Imm m fun mmll imm => .seb (.abs mmll) imm
  | 0xD => arg16 fun mmll => .ora .a (.mem (.abs mmll))
  | 0xE => arg16 fun mmll => .asl (.mem (.abs mmll))
  | 0xF => arg24 fun hhmmll => .ora .a (.mem (.abl hhmmll))
  | _ => unassigned (.code1 (BitVec.ofNat 8 (0x00 + column)))

/-- Row 1 of INSTRUCTION CODE TABLE-1 (R78). -/
def table1Row1 (m _x : Bool) (column : Nat) : Reader :=
  match column with
  | 0x0 => arg8 .bpl
  | 0x1 => arg8 fun dd => .ora .a (.mem (.dirIndY dd))
  | 0x2 => arg8 fun dd => .ora .a (.mem (.dirInd dd))
  | 0x3 => arg8 fun nn => .ora .a (.mem (.srIndY nn))
  | 0x4 => arg8Imm m fun dd imm => .clb (.dir dd) imm
  | 0x5 => arg8 fun dd => .ora .a (.mem (.dirX dd))
  | 0x6 => arg8 fun dd => .asl (.mem (.dirX dd))
  | 0x7 => arg8 fun dd => .ora .a (.mem (.dirIndLY dd))
  | 0x8 => arg0 .clc
  | 0x9 => arg16 fun mmll => .ora .a (.mem (.absY mmll))
  | 0xA => arg0 (.dec (.acc .a))
  | 0xB => arg0 .tas
  | 0xC => arg16Imm m fun mmll imm => .clb (.abs mmll) imm
  | 0xD => arg16 fun mmll => .ora .a (.mem (.absX mmll))
  | 0xE => arg16 fun mmll => .asl (.mem (.absX mmll))
  | 0xF => arg24 fun hhmmll => .ora .a (.mem (.ablX hhmmll))
  | _ => unassigned (.code1 (BitVec.ofNat 8 (0x10 + column)))

/-- Row 2 of INSTRUCTION CODE TABLE-1 (R78). -/
def table1Row2 (m _x : Bool) (column : Nat) : Reader :=
  match column with
  | 0x0 => arg16 fun mmll => .jsr (.abs mmll)
  | 0x1 => arg8 fun dd => .and .a (.mem (.dirXInd dd))
  | 0x2 => arg24 fun hhmmll => .jsr (.abl hhmmll)
  | 0x3 => arg8 fun nn => .and .a (.mem (.sr nn))
  | 0x4 => arg8ImmRel m fun dd imm rr => .bbs (.dir dd) imm rr
  | 0x5 => arg8 fun dd => .and .a (.mem (.dir dd))
  | 0x6 => arg8 fun dd => .rol (.mem (.dir dd))
  | 0x7 => arg8 fun dd => .and .a (.mem (.dirIndL dd))
  | 0x8 => arg0 .plp
  | 0x9 => argImm m fun imm => .and .a (.imm imm)
  | 0xA => arg0 (.rol (.acc .a))
  | 0xB => arg0 .pld
  | 0xC => arg16ImmRel m fun mmll imm rr => .bbs (.abs mmll) imm rr
  | 0xD => arg16 fun mmll => .and .a (.mem (.abs mmll))
  | 0xE => arg16 fun mmll => .rol (.mem (.abs mmll))
  | 0xF => arg24 fun hhmmll => .and .a (.mem (.abl hhmmll))
  | _ => unassigned (.code1 (BitVec.ofNat 8 (0x20 + column)))

/-- Row 3 of INSTRUCTION CODE TABLE-1 (R78). -/
def table1Row3 (m _x : Bool) (column : Nat) : Reader :=
  match column with
  | 0x0 => arg8 .bmi
  | 0x1 => arg8 fun dd => .and .a (.mem (.dirIndY dd))
  | 0x2 => arg8 fun dd => .and .a (.mem (.dirInd dd))
  | 0x3 => arg8 fun nn => .and .a (.mem (.srIndY nn))
  | 0x4 => arg8ImmRel m fun dd imm rr => .bbc (.dir dd) imm rr
  | 0x5 => arg8 fun dd => .and .a (.mem (.dirX dd))
  | 0x6 => arg8 fun dd => .rol (.mem (.dirX dd))
  | 0x7 => arg8 fun dd => .and .a (.mem (.dirIndLY dd))
  | 0x8 => arg0 .sec
  | 0x9 => arg16 fun mmll => .and .a (.mem (.absY mmll))
  | 0xA => arg0 (.inc (.acc .a))
  | 0xB => arg0 .tsa
  | 0xC => arg16ImmRel m fun mmll imm rr => .bbc (.abs mmll) imm rr
  | 0xD => arg16 fun mmll => .and .a (.mem (.absX mmll))
  | 0xE => arg16 fun mmll => .rol (.mem (.absX mmll))
  | 0xF => arg24 fun hhmmll => .and .a (.mem (.ablX hhmmll))
  | _ => unassigned (.code1 (BitVec.ofNat 8 (0x30 + column)))

/-- Row 4 of INSTRUCTION CODE TABLE-1 (R78). -/
def table1Row4 (m _x : Bool) (column : Nat) : Reader :=
  match column with
  | 0x0 => arg0 .rti
  | 0x1 => arg8 fun dd => .eor .a (.mem (.dirXInd dd))
  | 0x3 => arg8 fun nn => .eor .a (.mem (.sr nn))
  | 0x4 => arg8Arg8 .mvp
  | 0x5 => arg8 fun dd => .eor .a (.mem (.dir dd))
  | 0x6 => arg8 fun dd => .lsr (.mem (.dir dd))
  | 0x7 => arg8 fun dd => .eor .a (.mem (.dirIndL dd))
  | 0x8 => arg0 .pha
  | 0x9 => argImm m fun imm => .eor .a (.imm imm)
  | 0xA => arg0 (.lsr (.acc .a))
  | 0xB => arg0 .phg
  | 0xC => arg16 fun mmll => .jmp (.abs mmll)
  | 0xD => arg16 fun mmll => .eor .a (.mem (.abs mmll))
  | 0xE => arg16 fun mmll => .lsr (.mem (.abs mmll))
  | 0xF => arg24 fun hhmmll => .eor .a (.mem (.abl hhmmll))
  | _ => unassigned (.code1 (BitVec.ofNat 8 (0x40 + column)))

/-- Row 5 of INSTRUCTION CODE TABLE-1 (R78). -/
def table1Row5 (_m _x : Bool) (column : Nat) : Reader :=
  match column with
  | 0x0 => arg8 .bvc
  | 0x1 => arg8 fun dd => .eor .a (.mem (.dirIndY dd))
  | 0x2 => arg8 fun dd => .eor .a (.mem (.dirInd dd))
  | 0x3 => arg8 fun nn => .eor .a (.mem (.srIndY nn))
  | 0x4 => arg8Arg8 .mvn
  | 0x5 => arg8 fun dd => .eor .a (.mem (.dirX dd))
  | 0x6 => arg8 fun dd => .lsr (.mem (.dirX dd))
  | 0x7 => arg8 fun dd => .eor .a (.mem (.dirIndLY dd))
  | 0x8 => arg0 .cli
  | 0x9 => arg16 fun mmll => .eor .a (.mem (.absY mmll))
  | 0xA => arg0 .phy
  | 0xB => arg0 .tad
  | 0xC => arg24 fun hhmmll => .jmp (.abl hhmmll)
  | 0xD => arg16 fun mmll => .eor .a (.mem (.absX mmll))
  | 0xE => arg16 fun mmll => .lsr (.mem (.absX mmll))
  | 0xF => arg24 fun hhmmll => .eor .a (.mem (.ablX hhmmll))
  | _ => unassigned (.code1 (BitVec.ofNat 8 (0x50 + column)))

/-- Row 6 of INSTRUCTION CODE TABLE-1 (R78). -/
def table1Row6 (m _x : Bool) (column : Nat) : Reader :=
  match column with
  | 0x0 => arg0 .rts
  | 0x1 => arg8 fun dd => .adc .a (.mem (.dirXInd dd))
  | 0x2 => arg16 .per
  | 0x3 => arg8 fun nn => .adc .a (.mem (.sr nn))
  | 0x4 => arg8Imm m fun dd imm => .ldm (.dir dd) imm
  | 0x5 => arg8 fun dd => .adc .a (.mem (.dir dd))
  | 0x6 => arg8 fun dd => .ror (.mem (.dir dd))
  | 0x7 => arg8 fun dd => .adc .a (.mem (.dirIndL dd))
  | 0x8 => arg0 .pla
  | 0x9 => argImm m fun imm => .adc .a (.imm imm)
  | 0xA => arg0 (.ror (.acc .a))
  | 0xB => arg0 .rtl
  | 0xC => arg16 fun mmll => .jmp (.absInd mmll)
  | 0xD => arg16 fun mmll => .adc .a (.mem (.abs mmll))
  | 0xE => arg16 fun mmll => .ror (.mem (.abs mmll))
  | 0xF => arg24 fun hhmmll => .adc .a (.mem (.abl hhmmll))
  | _ => unassigned (.code1 (BitVec.ofNat 8 (0x60 + column)))

/-- Row 7 of INSTRUCTION CODE TABLE-1 (R78). -/
def table1Row7 (m _x : Bool) (column : Nat) : Reader :=
  match column with
  | 0x0 => arg8 .bvs
  | 0x1 => arg8 fun dd => .adc .a (.mem (.dirIndY dd))
  | 0x2 => arg8 fun dd => .adc .a (.mem (.dirInd dd))
  | 0x3 => arg8 fun nn => .adc .a (.mem (.srIndY nn))
  | 0x4 => arg8Imm m fun dd imm => .ldm (.dirX dd) imm
  | 0x5 => arg8 fun dd => .adc .a (.mem (.dirX dd))
  | 0x6 => arg8 fun dd => .ror (.mem (.dirX dd))
  | 0x7 => arg8 fun dd => .adc .a (.mem (.dirIndLY dd))
  | 0x8 => arg0 .sei
  | 0x9 => arg16 fun mmll => .adc .a (.mem (.absY mmll))
  | 0xA => arg0 .ply
  | 0xB => arg0 .tda
  | 0xC => arg16 fun mmll => .jmp (.absXInd mmll)
  | 0xD => arg16 fun mmll => .adc .a (.mem (.absX mmll))
  | 0xE => arg16 fun mmll => .ror (.mem (.absX mmll))
  | 0xF => arg24 fun hhmmll => .adc .a (.mem (.ablX hhmmll))
  | _ => unassigned (.code1 (BitVec.ofNat 8 (0x70 + column)))

/-- Row 8 of INSTRUCTION CODE TABLE-1 (R78). -/
def table1Row8 (_m _x : Bool) (column : Nat) : Reader :=
  match column with
  | 0x0 => arg8 fun rr => .bra (.short rr)
  | 0x1 => arg8 fun dd => .sta .a (.dirXInd dd)
  | 0x2 => arg16 fun rr => .bra (.long rr)
  | 0x3 => arg8 fun nn => .sta .a (.sr nn)
  | 0x4 => arg8 fun dd => .sty (.dir dd)
  | 0x5 => arg8 fun dd => .sta .a (.dir dd)
  | 0x6 => arg8 fun dd => .stx (.dir dd)
  | 0x7 => arg8 fun dd => .sta .a (.dirIndL dd)
  | 0x8 => arg0 .dey
  | 0xA => arg0 .txa
  | 0xB => arg0 .pht
  | 0xC => arg16 fun mmll => .sty (.abs mmll)
  | 0xD => arg16 fun mmll => .sta .a (.abs mmll)
  | 0xE => arg16 fun mmll => .stx (.abs mmll)
  | 0xF => arg24 fun hhmmll => .sta .a (.abl hhmmll)
  | _ => unassigned (.code1 (BitVec.ofNat 8 (0x80 + column)))

/-- Row 9 of INSTRUCTION CODE TABLE-1 (R78). -/
def table1Row9 (m _x : Bool) (column : Nat) : Reader :=
  match column with
  | 0x0 => arg8 .bcc
  | 0x1 => arg8 fun dd => .sta .a (.dirIndY dd)
  | 0x2 => arg8 fun dd => .sta .a (.dirInd dd)
  | 0x3 => arg8 fun nn => .sta .a (.srIndY nn)
  | 0x4 => arg8 fun dd => .sty (.dirX dd)
  | 0x5 => arg8 fun dd => .sta .a (.dirX dd)
  | 0x6 => arg8 fun dd => .stx (.dirY dd)
  | 0x7 => arg8 fun dd => .sta .a (.dirIndLY dd)
  | 0x8 => arg0 .tya
  | 0x9 => arg16 fun mmll => .sta .a (.absY mmll)
  | 0xA => arg0 .txs
  | 0xB => arg0 .txy
  | 0xC => arg16Imm m fun mmll imm => .ldm (.abs mmll) imm
  | 0xD => arg16 fun mmll => .sta .a (.absX mmll)
  | 0xE => arg16Imm m fun mmll imm => .ldm (.absX mmll) imm
  | 0xF => arg24 fun hhmmll => .sta .a (.ablX hhmmll)
  | _ => unassigned (.code1 (BitVec.ofNat 8 (0x90 + column)))

/-- Row A of INSTRUCTION CODE TABLE-1 (R78). -/
def table1RowA (m x : Bool) (column : Nat) : Reader :=
  match column with
  | 0x0 => argImm x fun imm => .ldy (.imm imm)
  | 0x1 => arg8 fun dd => .lda .a (.mem (.dirXInd dd))
  | 0x2 => argImm x fun imm => .ldx (.imm imm)
  | 0x3 => arg8 fun nn => .lda .a (.mem (.sr nn))
  | 0x4 => arg8 fun dd => .ldy (.mem (.dir dd))
  | 0x5 => arg8 fun dd => .lda .a (.mem (.dir dd))
  | 0x6 => arg8 fun dd => .ldx (.mem (.dir dd))
  | 0x7 => arg8 fun dd => .lda .a (.mem (.dirIndL dd))
  | 0x8 => arg0 .tay
  | 0x9 => argImm m fun imm => .lda .a (.imm imm)
  | 0xA => arg0 .tax
  | 0xB => arg0 .plt
  | 0xC => arg16 fun mmll => .ldy (.mem (.abs mmll))
  | 0xD => arg16 fun mmll => .lda .a (.mem (.abs mmll))
  | 0xE => arg16 fun mmll => .ldx (.mem (.abs mmll))
  | 0xF => arg24 fun hhmmll => .lda .a (.mem (.abl hhmmll))
  | _ => unassigned (.code1 (BitVec.ofNat 8 (0xA0 + column)))

/-- Row B of INSTRUCTION CODE TABLE-1 (R78). -/
def table1RowB (_m _x : Bool) (column : Nat) : Reader :=
  match column with
  | 0x0 => arg8 .bcs
  | 0x1 => arg8 fun dd => .lda .a (.mem (.dirIndY dd))
  | 0x2 => arg8 fun dd => .lda .a (.mem (.dirInd dd))
  | 0x3 => arg8 fun nn => .lda .a (.mem (.srIndY nn))
  | 0x4 => arg8 fun dd => .ldy (.mem (.dirX dd))
  | 0x5 => arg8 fun dd => .lda .a (.mem (.dirX dd))
  | 0x6 => arg8 fun dd => .ldx (.mem (.dirY dd))
  | 0x7 => arg8 fun dd => .lda .a (.mem (.dirIndLY dd))
  | 0x8 => arg0 .clv
  | 0x9 => arg16 fun mmll => .lda .a (.mem (.absY mmll))
  | 0xA => arg0 .tsx
  | 0xB => arg0 .tyx
  | 0xC => arg16 fun mmll => .ldy (.mem (.absX mmll))
  | 0xD => arg16 fun mmll => .lda .a (.mem (.absX mmll))
  | 0xE => arg16 fun mmll => .ldx (.mem (.absY mmll))
  | 0xF => arg24 fun hhmmll => .lda .a (.mem (.ablX hhmmll))
  | _ => unassigned (.code1 (BitVec.ofNat 8 (0xB0 + column)))

/-- Row C of INSTRUCTION CODE TABLE-1 (R78). -/
def table1RowC (m x : Bool) (column : Nat) : Reader :=
  match column with
  | 0x0 => argImm x fun imm => .cpy (.imm imm)
  | 0x1 => arg8 fun dd => .cmp .a (.mem (.dirXInd dd))
  | 0x2 => arg8 .clp
  | 0x3 => arg8 fun nn => .cmp .a (.mem (.sr nn))
  | 0x4 => arg8 fun dd => .cpy (.mem (.dir dd))
  | 0x5 => arg8 fun dd => .cmp .a (.mem (.dir dd))
  | 0x6 => arg8 fun dd => .dec (.mem (.dir dd))
  | 0x7 => arg8 fun dd => .cmp .a (.mem (.dirIndL dd))
  | 0x8 => arg0 .iny
  | 0x9 => argImm m fun imm => .cmp .a (.imm imm)
  | 0xA => arg0 .dex
  | 0xB => arg0 .wit
  | 0xC => arg16 fun mmll => .cpy (.mem (.abs mmll))
  | 0xD => arg16 fun mmll => .cmp .a (.mem (.abs mmll))
  | 0xE => arg16 fun mmll => .dec (.mem (.abs mmll))
  | 0xF => arg24 fun hhmmll => .cmp .a (.mem (.abl hhmmll))
  | _ => unassigned (.code1 (BitVec.ofNat 8 (0xC0 + column)))

/-- Row D of INSTRUCTION CODE TABLE-1 (R78). -/
def table1RowD (_m _x : Bool) (column : Nat) : Reader :=
  match column with
  | 0x0 => arg8 .bne
  | 0x1 => arg8 fun dd => .cmp .a (.mem (.dirIndY dd))
  | 0x2 => arg8 fun dd => .cmp .a (.mem (.dirInd dd))
  | 0x3 => arg8 fun nn => .cmp .a (.mem (.srIndY nn))
  | 0x4 => arg8 .pei
  | 0x5 => arg8 fun dd => .cmp .a (.mem (.dirX dd))
  | 0x6 => arg8 fun dd => .dec (.mem (.dirX dd))
  | 0x7 => arg8 fun dd => .cmp .a (.mem (.dirIndLY dd))
  | 0x8 => arg0 .clm
  | 0x9 => arg16 fun mmll => .cmp .a (.mem (.absY mmll))
  | 0xA => arg0 .phx
  | 0xB => arg0 .stp
  | 0xC => arg16 fun mmll => .jmp (.absIndL mmll)
  | 0xD => arg16 fun mmll => .cmp .a (.mem (.absX mmll))
  | 0xE => arg16 fun mmll => .dec (.mem (.absX mmll))
  | 0xF => arg24 fun hhmmll => .cmp .a (.mem (.ablX hhmmll))
  | _ => unassigned (.code1 (BitVec.ofNat 8 (0xD0 + column)))

/-- Row E of INSTRUCTION CODE TABLE-1 (R78). -/
def table1RowE (m x : Bool) (column : Nat) : Reader :=
  match column with
  | 0x0 => argImm x fun imm => .cpx (.imm imm)
  | 0x1 => arg8 fun dd => .sbc .a (.mem (.dirXInd dd))
  | 0x2 => arg8 .sep
  | 0x3 => arg8 fun nn => .sbc .a (.mem (.sr nn))
  | 0x4 => arg8 fun dd => .cpx (.mem (.dir dd))
  | 0x5 => arg8 fun dd => .sbc .a (.mem (.dir dd))
  | 0x6 => arg8 fun dd => .inc (.mem (.dir dd))
  | 0x7 => arg8 fun dd => .sbc .a (.mem (.dirIndL dd))
  | 0x8 => arg0 .inx
  | 0x9 => argImm m fun imm => .sbc .a (.imm imm)
  | 0xA => arg0 .nop
  | 0xB => arg8 .psh
  | 0xC => arg16 fun mmll => .cpx (.mem (.abs mmll))
  | 0xD => arg16 fun mmll => .sbc .a (.mem (.abs mmll))
  | 0xE => arg16 fun mmll => .inc (.mem (.abs mmll))
  | 0xF => arg24 fun hhmmll => .sbc .a (.mem (.abl hhmmll))
  | _ => unassigned (.code1 (BitVec.ofNat 8 (0xE0 + column)))

/-- Row F of INSTRUCTION CODE TABLE-1 (R78). -/
def table1RowF (_m _x : Bool) (column : Nat) : Reader :=
  match column with
  | 0x0 => arg8 .beq
  | 0x1 => arg8 fun dd => .sbc .a (.mem (.dirIndY dd))
  | 0x2 => arg8 fun dd => .sbc .a (.mem (.dirInd dd))
  | 0x3 => arg8 fun nn => .sbc .a (.mem (.srIndY nn))
  | 0x4 => arg16 .pea
  | 0x5 => arg8 fun dd => .sbc .a (.mem (.dirX dd))
  | 0x6 => arg8 fun dd => .inc (.mem (.dirX dd))
  | 0x7 => arg8 fun dd => .sbc .a (.mem (.dirIndLY dd))
  | 0x8 => arg0 .sem
  | 0x9 => arg16 fun mmll => .sbc .a (.mem (.absY mmll))
  | 0xA => arg0 .plx
  | 0xB => arg8 .pul
  | 0xC => arg16 fun mmll => .jsr (.absXInd mmll)
  | 0xD => arg16 fun mmll => .sbc .a (.mem (.absX mmll))
  | 0xE => arg16 fun mmll => .inc (.mem (.absX mmll))
  | 0xF => arg24 fun hhmmll => .sbc .a (.mem (.ablX hhmmll))
  | _ => unassigned (.code1 (BitVec.ofNat 8 (0xF0 + column)))

/-- INSTRUCTION CODE TABLE-1 (R78): the row is D7 to D4, the column D3 to D0 (R70). -/
def table1 (m x : Bool) (code : Byte) : Reader :=
  match code.toNat / 16 with
  | 0x0 => table1Row0 m x (code.toNat % 16)
  | 0x1 => table1Row1 m x (code.toNat % 16)
  | 0x2 => table1Row2 m x (code.toNat % 16)
  | 0x3 => table1Row3 m x (code.toNat % 16)
  | 0x4 => table1Row4 m x (code.toNat % 16)
  | 0x5 => table1Row5 m x (code.toNat % 16)
  | 0x6 => table1Row6 m x (code.toNat % 16)
  | 0x7 => table1Row7 m x (code.toNat % 16)
  | 0x8 => table1Row8 m x (code.toNat % 16)
  | 0x9 => table1Row9 m x (code.toNat % 16)
  | 0xA => table1RowA m x (code.toNat % 16)
  | 0xB => table1RowB m x (code.toNat % 16)
  | 0xC => table1RowC m x (code.toNat % 16)
  | 0xD => table1RowD m x (code.toNat % 16)
  | 0xE => table1RowE m x (code.toNat % 16)
  | _ => table1RowF m x (code.toNat % 16)

/-- Row 0 of INSTRUCTION CODE TABLE-2, the accumulator B forms (R80). -/
def table2Row0 (m _x : Bool) (column : Nat) : Reader :=
  match column with
  | 0x1 => arg8 fun dd => .ora .b (.mem (.dirXInd dd))
  | 0x3 => arg8 fun nn => .ora .b (.mem (.sr nn))
  | 0x5 => arg8 fun dd => .ora .b (.mem (.dir dd))
  | 0x7 => arg8 fun dd => .ora .b (.mem (.dirIndL dd))
  | 0x9 => argImm m fun imm => .ora .b (.imm imm)
  | 0xA => arg0 (.asl (.acc .b))
  | 0xD => arg16 fun mmll => .ora .b (.mem (.abs mmll))
  | 0xF => arg24 fun hhmmll => .ora .b (.mem (.abl hhmmll))
  | _ => unassigned (.code2 (BitVec.ofNat 8 (0x00 + column)))

/-- Row 1 of INSTRUCTION CODE TABLE-2, the accumulator B forms (R80). -/
def table2Row1 (_m _x : Bool) (column : Nat) : Reader :=
  match column with
  | 0x1 => arg8 fun dd => .ora .b (.mem (.dirIndY dd))
  | 0x2 => arg8 fun dd => .ora .b (.mem (.dirInd dd))
  | 0x3 => arg8 fun nn => .ora .b (.mem (.srIndY nn))
  | 0x5 => arg8 fun dd => .ora .b (.mem (.dirX dd))
  | 0x7 => arg8 fun dd => .ora .b (.mem (.dirIndLY dd))
  | 0x9 => arg16 fun mmll => .ora .b (.mem (.absY mmll))
  | 0xA => arg0 (.dec (.acc .b))
  | 0xB => arg0 .tbs
  | 0xD => arg16 fun mmll => .ora .b (.mem (.absX mmll))
  | 0xF => arg24 fun hhmmll => .ora .b (.mem (.ablX hhmmll))
  | _ => unassigned (.code2 (BitVec.ofNat 8 (0x10 + column)))

/-- Row 2 of INSTRUCTION CODE TABLE-2, the accumulator B forms (R80). -/
def table2Row2 (m _x : Bool) (column : Nat) : Reader :=
  match column with
  | 0x1 => arg8 fun dd => .and .b (.mem (.dirXInd dd))
  | 0x3 => arg8 fun nn => .and .b (.mem (.sr nn))
  | 0x5 => arg8 fun dd => .and .b (.mem (.dir dd))
  | 0x7 => arg8 fun dd => .and .b (.mem (.dirIndL dd))
  | 0x9 => argImm m fun imm => .and .b (.imm imm)
  | 0xA => arg0 (.rol (.acc .b))
  | 0xD => arg16 fun mmll => .and .b (.mem (.abs mmll))
  | 0xF => arg24 fun hhmmll => .and .b (.mem (.abl hhmmll))
  | _ => unassigned (.code2 (BitVec.ofNat 8 (0x20 + column)))

/-- Row 3 of INSTRUCTION CODE TABLE-2, the accumulator B forms (R80). -/
def table2Row3 (_m _x : Bool) (column : Nat) : Reader :=
  match column with
  | 0x1 => arg8 fun dd => .and .b (.mem (.dirIndY dd))
  | 0x2 => arg8 fun dd => .and .b (.mem (.dirInd dd))
  | 0x3 => arg8 fun nn => .and .b (.mem (.srIndY nn))
  | 0x5 => arg8 fun dd => .and .b (.mem (.dirX dd))
  | 0x7 => arg8 fun dd => .and .b (.mem (.dirIndLY dd))
  | 0x9 => arg16 fun mmll => .and .b (.mem (.absY mmll))
  | 0xA => arg0 (.inc (.acc .b))
  | 0xB => arg0 .tsb
  | 0xD => arg16 fun mmll => .and .b (.mem (.absX mmll))
  | 0xF => arg24 fun hhmmll => .and .b (.mem (.ablX hhmmll))
  | _ => unassigned (.code2 (BitVec.ofNat 8 (0x30 + column)))

/-- Row 4 of INSTRUCTION CODE TABLE-2, the accumulator B forms (R80). -/
def table2Row4 (m _x : Bool) (column : Nat) : Reader :=
  match column with
  | 0x1 => arg8 fun dd => .eor .b (.mem (.dirXInd dd))
  | 0x3 => arg8 fun nn => .eor .b (.mem (.sr nn))
  | 0x5 => arg8 fun dd => .eor .b (.mem (.dir dd))
  | 0x7 => arg8 fun dd => .eor .b (.mem (.dirIndL dd))
  | 0x8 => arg0 .phb
  | 0x9 => argImm m fun imm => .eor .b (.imm imm)
  | 0xA => arg0 (.lsr (.acc .b))
  | 0xD => arg16 fun mmll => .eor .b (.mem (.abs mmll))
  | 0xF => arg24 fun hhmmll => .eor .b (.mem (.abl hhmmll))
  | _ => unassigned (.code2 (BitVec.ofNat 8 (0x40 + column)))

/-- Row 5 of INSTRUCTION CODE TABLE-2, the accumulator B forms (R80). -/
def table2Row5 (_m _x : Bool) (column : Nat) : Reader :=
  match column with
  | 0x1 => arg8 fun dd => .eor .b (.mem (.dirIndY dd))
  | 0x2 => arg8 fun dd => .eor .b (.mem (.dirInd dd))
  | 0x3 => arg8 fun nn => .eor .b (.mem (.srIndY nn))
  | 0x5 => arg8 fun dd => .eor .b (.mem (.dirX dd))
  | 0x7 => arg8 fun dd => .eor .b (.mem (.dirIndLY dd))
  | 0x9 => arg16 fun mmll => .eor .b (.mem (.absY mmll))
  | 0xB => arg0 .tbd
  | 0xD => arg16 fun mmll => .eor .b (.mem (.absX mmll))
  | 0xF => arg24 fun hhmmll => .eor .b (.mem (.ablX hhmmll))
  | _ => unassigned (.code2 (BitVec.ofNat 8 (0x50 + column)))

/-- Row 6 of INSTRUCTION CODE TABLE-2, the accumulator B forms (R80). -/
def table2Row6 (m _x : Bool) (column : Nat) : Reader :=
  match column with
  | 0x1 => arg8 fun dd => .adc .b (.mem (.dirXInd dd))
  | 0x3 => arg8 fun nn => .adc .b (.mem (.sr nn))
  | 0x5 => arg8 fun dd => .adc .b (.mem (.dir dd))
  | 0x7 => arg8 fun dd => .adc .b (.mem (.dirIndL dd))
  | 0x8 => arg0 .plb
  | 0x9 => argImm m fun imm => .adc .b (.imm imm)
  | 0xA => arg0 (.ror (.acc .b))
  | 0xD => arg16 fun mmll => .adc .b (.mem (.abs mmll))
  | 0xF => arg24 fun hhmmll => .adc .b (.mem (.abl hhmmll))
  | _ => unassigned (.code2 (BitVec.ofNat 8 (0x60 + column)))

/-- Row 7 of INSTRUCTION CODE TABLE-2, the accumulator B forms (R80). -/
def table2Row7 (_m _x : Bool) (column : Nat) : Reader :=
  match column with
  | 0x1 => arg8 fun dd => .adc .b (.mem (.dirIndY dd))
  | 0x2 => arg8 fun dd => .adc .b (.mem (.dirInd dd))
  | 0x3 => arg8 fun nn => .adc .b (.mem (.srIndY nn))
  | 0x5 => arg8 fun dd => .adc .b (.mem (.dirX dd))
  | 0x7 => arg8 fun dd => .adc .b (.mem (.dirIndLY dd))
  | 0x9 => arg16 fun mmll => .adc .b (.mem (.absY mmll))
  | 0xB => arg0 .tdb
  | 0xD => arg16 fun mmll => .adc .b (.mem (.absX mmll))
  | 0xF => arg24 fun hhmmll => .adc .b (.mem (.ablX hhmmll))
  | _ => unassigned (.code2 (BitVec.ofNat 8 (0x70 + column)))

/-- Row 8 of INSTRUCTION CODE TABLE-2, the accumulator B forms (R80). -/
def table2Row8 (_m _x : Bool) (column : Nat) : Reader :=
  match column with
  | 0x1 => arg8 fun dd => .sta .b (.dirXInd dd)
  | 0x3 => arg8 fun nn => .sta .b (.sr nn)
  | 0x5 => arg8 fun dd => .sta .b (.dir dd)
  | 0x7 => arg8 fun dd => .sta .b (.dirIndL dd)
  | 0xA => arg0 .txb
  | 0xD => arg16 fun mmll => .sta .b (.abs mmll)
  | 0xF => arg24 fun hhmmll => .sta .b (.abl hhmmll)
  | _ => unassigned (.code2 (BitVec.ofNat 8 (0x80 + column)))

/-- Row 9 of INSTRUCTION CODE TABLE-2, the accumulator B forms (R80). -/
def table2Row9 (_m _x : Bool) (column : Nat) : Reader :=
  match column with
  | 0x1 => arg8 fun dd => .sta .b (.dirIndY dd)
  | 0x2 => arg8 fun dd => .sta .b (.dirInd dd)
  | 0x3 => arg8 fun nn => .sta .b (.srIndY nn)
  | 0x5 => arg8 fun dd => .sta .b (.dirX dd)
  | 0x7 => arg8 fun dd => .sta .b (.dirIndLY dd)
  | 0x8 => arg0 .tyb
  | 0x9 => arg16 fun mmll => .sta .b (.absY mmll)
  | 0xD => arg16 fun mmll => .sta .b (.absX mmll)
  | 0xF => arg24 fun hhmmll => .sta .b (.ablX hhmmll)
  | _ => unassigned (.code2 (BitVec.ofNat 8 (0x90 + column)))

/-- Row A of INSTRUCTION CODE TABLE-2, the accumulator B forms (R80). -/
def table2RowA (m _x : Bool) (column : Nat) : Reader :=
  match column with
  | 0x1 => arg8 fun dd => .lda .b (.mem (.dirXInd dd))
  | 0x3 => arg8 fun nn => .lda .b (.mem (.sr nn))
  | 0x5 => arg8 fun dd => .lda .b (.mem (.dir dd))
  | 0x7 => arg8 fun dd => .lda .b (.mem (.dirIndL dd))
  | 0x8 => arg0 .tby
  | 0x9 => argImm m fun imm => .lda .b (.imm imm)
  | 0xA => arg0 .tbx
  | 0xD => arg16 fun mmll => .lda .b (.mem (.abs mmll))
  | 0xF => arg24 fun hhmmll => .lda .b (.mem (.abl hhmmll))
  | _ => unassigned (.code2 (BitVec.ofNat 8 (0xA0 + column)))

/-- Row B of INSTRUCTION CODE TABLE-2, the accumulator B forms (R80). -/
def table2RowB (_m _x : Bool) (column : Nat) : Reader :=
  match column with
  | 0x1 => arg8 fun dd => .lda .b (.mem (.dirIndY dd))
  | 0x2 => arg8 fun dd => .lda .b (.mem (.dirInd dd))
  | 0x3 => arg8 fun nn => .lda .b (.mem (.srIndY nn))
  | 0x5 => arg8 fun dd => .lda .b (.mem (.dirX dd))
  | 0x7 => arg8 fun dd => .lda .b (.mem (.dirIndLY dd))
  | 0x9 => arg16 fun mmll => .lda .b (.mem (.absY mmll))
  | 0xD => arg16 fun mmll => .lda .b (.mem (.absX mmll))
  | 0xF => arg24 fun hhmmll => .lda .b (.mem (.ablX hhmmll))
  | _ => unassigned (.code2 (BitVec.ofNat 8 (0xB0 + column)))

/-- Row C of INSTRUCTION CODE TABLE-2, the accumulator B forms (R80). -/
def table2RowC (m _x : Bool) (column : Nat) : Reader :=
  match column with
  | 0x1 => arg8 fun dd => .cmp .b (.mem (.dirXInd dd))
  | 0x3 => arg8 fun nn => .cmp .b (.mem (.sr nn))
  | 0x5 => arg8 fun dd => .cmp .b (.mem (.dir dd))
  | 0x7 => arg8 fun dd => .cmp .b (.mem (.dirIndL dd))
  | 0x9 => argImm m fun imm => .cmp .b (.imm imm)
  | 0xD => arg16 fun mmll => .cmp .b (.mem (.abs mmll))
  | 0xF => arg24 fun hhmmll => .cmp .b (.mem (.abl hhmmll))
  | _ => unassigned (.code2 (BitVec.ofNat 8 (0xC0 + column)))

/-- Row D of INSTRUCTION CODE TABLE-2, the accumulator B forms (R80). -/
def table2RowD (_m _x : Bool) (column : Nat) : Reader :=
  match column with
  | 0x1 => arg8 fun dd => .cmp .b (.mem (.dirIndY dd))
  | 0x2 => arg8 fun dd => .cmp .b (.mem (.dirInd dd))
  | 0x3 => arg8 fun nn => .cmp .b (.mem (.srIndY nn))
  | 0x5 => arg8 fun dd => .cmp .b (.mem (.dirX dd))
  | 0x7 => arg8 fun dd => .cmp .b (.mem (.dirIndLY dd))
  | 0x9 => arg16 fun mmll => .cmp .b (.mem (.absY mmll))
  | 0xD => arg16 fun mmll => .cmp .b (.mem (.absX mmll))
  | 0xF => arg24 fun hhmmll => .cmp .b (.mem (.ablX hhmmll))
  | _ => unassigned (.code2 (BitVec.ofNat 8 (0xD0 + column)))

/-- Row E of INSTRUCTION CODE TABLE-2, the accumulator B forms (R80). -/
def table2RowE (m _x : Bool) (column : Nat) : Reader :=
  match column with
  | 0x1 => arg8 fun dd => .sbc .b (.mem (.dirXInd dd))
  | 0x3 => arg8 fun nn => .sbc .b (.mem (.sr nn))
  | 0x5 => arg8 fun dd => .sbc .b (.mem (.dir dd))
  | 0x7 => arg8 fun dd => .sbc .b (.mem (.dirIndL dd))
  | 0x9 => argImm m fun imm => .sbc .b (.imm imm)
  | 0xD => arg16 fun mmll => .sbc .b (.mem (.abs mmll))
  | 0xF => arg24 fun hhmmll => .sbc .b (.mem (.abl hhmmll))
  | _ => unassigned (.code2 (BitVec.ofNat 8 (0xE0 + column)))

/-- Row F of INSTRUCTION CODE TABLE-2, the accumulator B forms (R80). -/
def table2RowF (_m _x : Bool) (column : Nat) : Reader :=
  match column with
  | 0x1 => arg8 fun dd => .sbc .b (.mem (.dirIndY dd))
  | 0x2 => arg8 fun dd => .sbc .b (.mem (.dirInd dd))
  | 0x3 => arg8 fun nn => .sbc .b (.mem (.srIndY nn))
  | 0x5 => arg8 fun dd => .sbc .b (.mem (.dirX dd))
  | 0x7 => arg8 fun dd => .sbc .b (.mem (.dirIndLY dd))
  | 0x9 => arg16 fun mmll => .sbc .b (.mem (.absY mmll))
  | 0xD => arg16 fun mmll => .sbc .b (.mem (.absX mmll))
  | 0xF => arg24 fun hhmmll => .sbc .b (.mem (.ablX hhmmll))
  | _ => unassigned (.code2 (BitVec.ofNat 8 (0xF0 + column)))

/-- INSTRUCTION CODE TABLE-2, the accumulator B forms (R80): the row is D7 to D4, the column D3 to D0 (R70). -/
def table2 (m x : Bool) (code : Byte) : Reader :=
  match code.toNat / 16 with
  | 0x0 => table2Row0 m x (code.toNat % 16)
  | 0x1 => table2Row1 m x (code.toNat % 16)
  | 0x2 => table2Row2 m x (code.toNat % 16)
  | 0x3 => table2Row3 m x (code.toNat % 16)
  | 0x4 => table2Row4 m x (code.toNat % 16)
  | 0x5 => table2Row5 m x (code.toNat % 16)
  | 0x6 => table2Row6 m x (code.toNat % 16)
  | 0x7 => table2Row7 m x (code.toNat % 16)
  | 0x8 => table2Row8 m x (code.toNat % 16)
  | 0x9 => table2Row9 m x (code.toNat % 16)
  | 0xA => table2RowA m x (code.toNat % 16)
  | 0xB => table2RowB m x (code.toNat % 16)
  | 0xC => table2RowC m x (code.toNat % 16)
  | 0xD => table2RowD m x (code.toNat % 16)
  | 0xE => table2RowE m x (code.toNat % 16)
  | _ => table2RowF m x (code.toNat % 16)

/-- Row 0 of INSTRUCTION CODE TABLE-3 (R81). -/
def table3Row0 (m _x : Bool) (column : Nat) : Reader :=
  match column with
  | 0x1 => arg8 fun dd => .mpy (.mem (.dirXInd dd))
  | 0x3 => arg8 fun nn => .mpy (.mem (.sr nn))
  | 0x5 => arg8 fun dd => .mpy (.mem (.dir dd))
  | 0x7 => arg8 fun dd => .mpy (.mem (.dirIndL dd))
  | 0x9 => argImm m fun imm => .mpy (.imm imm)
  | 0xD => arg16 fun mmll => .mpy (.mem (.abs mmll))
  | 0xF => arg24 fun hhmmll => .mpy (.mem (.abl hhmmll))
  | _ => unassigned (.code3 (BitVec.ofNat 8 (0x00 + column)))

/-- Row 1 of INSTRUCTION CODE TABLE-3 (R81). -/
def table3Row1 (_m _x : Bool) (column : Nat) : Reader :=
  match column with
  | 0x1 => arg8 fun dd => .mpy (.mem (.dirIndY dd))
  | 0x2 => arg8 fun dd => .mpy (.mem (.dirInd dd))
  | 0x3 => arg8 fun nn => .mpy (.mem (.srIndY nn))
  | 0x5 => arg8 fun dd => .mpy (.mem (.dirX dd))
  | 0x7 => arg8 fun dd => .mpy (.mem (.dirIndLY dd))
  | 0x9 => arg16 fun mmll => .mpy (.mem (.absY mmll))
  | 0xD => arg16 fun mmll => .mpy (.mem (.absX mmll))
  | 0xF => arg24 fun hhmmll => .mpy (.mem (.ablX hhmmll))
  | _ => unassigned (.code3 (BitVec.ofNat 8 (0x10 + column)))

/-- Row 2 of INSTRUCTION CODE TABLE-3 (R81). -/
def table3Row2 (m _x : Bool) (column : Nat) : Reader :=
  match column with
  | 0x1 => arg8 fun dd => .div (.mem (.dirXInd dd))
  | 0x3 => arg8 fun nn => .div (.mem (.sr nn))
  | 0x5 => arg8 fun dd => .div (.mem (.dir dd))
  | 0x7 => arg8 fun dd => .div (.mem (.dirIndL dd))
  | 0x8 => arg0 .xab
  | 0x9 => argImm m fun imm => .div (.imm imm)
  | 0xD => arg16 fun mmll => .div (.mem (.abs mmll))
  | 0xF => arg24 fun hhmmll => .div (.mem (.abl hhmmll))
  | _ => unassigned (.code3 (BitVec.ofNat 8 (0x20 + column)))

/-- Row 3 of INSTRUCTION CODE TABLE-3 (R81). -/
def table3Row3 (_m _x : Bool) (column : Nat) : Reader :=
  match column with
  | 0x1 => arg8 fun dd => .div (.mem (.dirIndY dd))
  | 0x2 => arg8 fun dd => .div (.mem (.dirInd dd))
  | 0x3 => arg8 fun nn => .div (.mem (.srIndY nn))
  | 0x5 => arg8 fun dd => .div (.mem (.dirX dd))
  | 0x7 => arg8 fun dd => .div (.mem (.dirIndLY dd))
  | 0x9 => arg16 fun mmll => .div (.mem (.absY mmll))
  | 0xD => arg16 fun mmll => .div (.mem (.absX mmll))
  | 0xF => arg24 fun hhmmll => .div (.mem (.ablX hhmmll))
  | _ => unassigned (.code3 (BitVec.ofNat 8 (0x30 + column)))

/-- Row 4 of INSTRUCTION CODE TABLE-3 (R81). -/
def table3Row4 (m _x : Bool) (column : Nat) : Reader :=
  match column with
  | 0x9 => argImm m .rla
  | _ => unassigned (.code3 (BitVec.ofNat 8 (0x40 + column)))

/-- Row 5 of INSTRUCTION CODE TABLE-3 (R81). -/
def table3Row5 (_m _x : Bool) (column : Nat) : Reader :=
  match column with
  | _ => unassigned (.code3 (BitVec.ofNat 8 (0x50 + column)))

/-- Row 6 of INSTRUCTION CODE TABLE-3 (R81). -/
def table3Row6 (_m _x : Bool) (column : Nat) : Reader :=
  match column with
  | _ => unassigned (.code3 (BitVec.ofNat 8 (0x60 + column)))

/-- Row 7 of INSTRUCTION CODE TABLE-3 (R81). -/
def table3Row7 (_m _x : Bool) (column : Nat) : Reader :=
  match column with
  | _ => unassigned (.code3 (BitVec.ofNat 8 (0x70 + column)))

/-- Row 8 of INSTRUCTION CODE TABLE-3 (R81). -/
def table3Row8 (_m _x : Bool) (column : Nat) : Reader :=
  match column with
  | _ => unassigned (.code3 (BitVec.ofNat 8 (0x80 + column)))

/-- Row 9 of INSTRUCTION CODE TABLE-3 (R81). -/
def table3Row9 (_m _x : Bool) (column : Nat) : Reader :=
  match column with
  | _ => unassigned (.code3 (BitVec.ofNat 8 (0x90 + column)))

/-- Row A of INSTRUCTION CODE TABLE-3 (R81). -/
def table3RowA (_m _x : Bool) (column : Nat) : Reader :=
  match column with
  | _ => unassigned (.code3 (BitVec.ofNat 8 (0xA0 + column)))

/-- Row B of INSTRUCTION CODE TABLE-3 (R81). -/
def table3RowB (_m _x : Bool) (column : Nat) : Reader :=
  match column with
  | _ => unassigned (.code3 (BitVec.ofNat 8 (0xB0 + column)))

/-- Row C of INSTRUCTION CODE TABLE-3 (R81). -/
def table3RowC (_m _x : Bool) (column : Nat) : Reader :=
  match column with
  | 0x2 => arg8 .ldt
  | _ => unassigned (.code3 (BitVec.ofNat 8 (0xC0 + column)))

/-- Row D of INSTRUCTION CODE TABLE-3 (R81). -/
def table3RowD (_m _x : Bool) (column : Nat) : Reader :=
  match column with
  | _ => unassigned (.code3 (BitVec.ofNat 8 (0xD0 + column)))

/-- Row E of INSTRUCTION CODE TABLE-3 (R81). -/
def table3RowE (_m _x : Bool) (column : Nat) : Reader :=
  match column with
  | _ => unassigned (.code3 (BitVec.ofNat 8 (0xE0 + column)))

/-- Row F of INSTRUCTION CODE TABLE-3 (R81). -/
def table3RowF (_m _x : Bool) (column : Nat) : Reader :=
  match column with
  | _ => unassigned (.code3 (BitVec.ofNat 8 (0xF0 + column)))

/-- INSTRUCTION CODE TABLE-3 (R81): the row is D7 to D4, the column D3 to D0 (R70). -/
def table3 (m x : Bool) (code : Byte) : Reader :=
  match code.toNat / 16 with
  | 0x0 => table3Row0 m x (code.toNat % 16)
  | 0x1 => table3Row1 m x (code.toNat % 16)
  | 0x2 => table3Row2 m x (code.toNat % 16)
  | 0x3 => table3Row3 m x (code.toNat % 16)
  | 0x4 => table3Row4 m x (code.toNat % 16)
  | 0x5 => table3Row5 m x (code.toNat % 16)
  | 0x6 => table3Row6 m x (code.toNat % 16)
  | 0x7 => table3Row7 m x (code.toNat % 16)
  | 0x8 => table3Row8 m x (code.toNat % 16)
  | 0x9 => table3Row9 m x (code.toNat % 16)
  | 0xA => table3RowA m x (code.toNat % 16)
  | 0xB => table3RowB m x (code.toNat % 16)
  | 0xC => table3RowC m x (code.toNat % 16)
  | 0xD => table3RowD m x (code.toNat % 16)
  | 0xE => table3RowE m x (code.toNat % 16)
  | _ => table3RowF m x (code.toNat % 16)

/-- The decoding procedure of R72 under the width flags `m` and `x` that PS holds when the instruction is decoded (R71). -/
def decode (m x : Bool) : List Byte → Decoded
  | [] => .bad .truncated
  | b0 :: rest =>
    if b0 = 0x42 then
      match rest with
      | [] => .bad .truncated
      | b1 :: operands => table2 m x b1 operands
    else if b0 = 0x89 then
      match rest with
      | [] => .bad .truncated
      | b1 :: operands => table3 m x b1 operands
    else table1 m x b0 rest

/-- The longest instruction, in bytes (R70). -/
def maxLength : Nat := 6

/-- Two bytes begin an instruction that has a leading 42 or 89. -/
def leadsTable (b0 b1 : Byte) : Bool :=
  (b0 = 0x42 || b0 = 0x89) &&
    match decode false false [b0, b1, 0, 0, 0, 0] with
    | .ok _ _ => true
    | .bad _ => false

/-- The bytes, lowest address first, of an instruction whose bits are `w`, every bit above `nbits` 0. The bytes count from the
least significant on. spec/opcode_table.json gives a row with a leading byte 42 or 89 as ONE 16-bit number with that byte in the
more significant half (R111: "first byte in the most significant position"), so a 16-bit value whose halves are such a pair is
read in that order. DEDUCED (log 13). -/
def tableBytes (nbits w : Nat) : List Byte :=
  let v := w % 2 ^ nbits
  let byte (k : Nat) : Byte := BitVec.ofNat 8 (v / 256 ^ k)
  if v < 2 ^ 16 && leadsTable (byte 1) (byte 0) then [byte 1, byte 0, 0, 0, 0, 0]
  else [byte 0, byte 1, byte 2, byte 3, byte 4, byte 5]

/-- The instruction the decoder reads from an instruction whose bits are `w`, numbered as spec/opcode_table.json numbers them,
under the width flags of the machine right after reset (m = 0, x = 0). -/
def decodeTableWord (nbits w : Nat) : Option Instr :=
  match decode false false (tableBytes nbits w) with
  | .ok i _ => some i
  | .bad _ => none


/-- The bytes of an immediate: one when the flag is 1, two (low first) when it is 0 (R71, R76). -/
def immBytes (flag : Bool) (imm : Word) : List Byte :=
  if flag then [Machine.lowByte imm] else [Machine.lowByte imm, Machine.highByte imm]

/-- A 16-bit operand, low byte first (R42, R75). -/
def wordBytes (v : Word) : List Byte := [Machine.lowByte v, Machine.highByte v]

/-- A 24-bit operand: ll, mm, hh (R42, R75). -/
def longBytes (v : Addr) : List Byte := wordBytes (Machine.offsetOf v) ++ [Machine.bankOf v]

/-- The operand bytes of a memory mode (R71, R75). -/
def MemMode.bytes : MemMode → List Byte
  | .dir dd | .dirX dd | .dirY dd | .dirInd dd | .dirXInd dd | .dirIndY dd | .dirIndL dd | .dirIndLY dd => [dd]
  | .abs mmll | .absX mmll | .absY mmll => wordBytes mmll
  | .abl hhmmll | .ablX hhmmll => longBytes hhmmll
  | .sr nn | .srIndY nn => [nn]

/-- The code offset of each memory mode in the accumulator group (R140, R190). DIR,Y is no mode of the group. -/
def MemMode.accOffset : MemMode → Byte
  | .dir _ => 0x05
  | .dirX _ => 0x15
  | .dirY _ => 0x00
  | .dirInd _ => 0x12
  | .dirXInd _ => 0x01
  | .dirIndY _ => 0x11
  | .dirIndL _ => 0x07
  | .dirIndLY _ => 0x17
  | .abs _ => 0x0D
  | .absX _ => 0x1D
  | .absY _ => 0x19
  | .abl _ => 0x0F
  | .ablX _ => 0x1F
  | .sr _ => 0x03
  | .srIndY _ => 0x13

/-- The leading byte of an accumulator's forms: none for A, 42 for B (R73). -/
def Acc.lead : Acc → List Byte
  | .a => []
  | .b => [0x42]

/-- An accumulator group instruction after its leading byte: base and operand (R140, R190); IMM has the offset 09. -/
def groupBytes (m : Bool) (base : Byte) : Operand → List Byte
  | .imm v => (base + 0x09) :: immBytes m v
  | .mem o => (base + o.accOffset) :: o.bytes

/-- The codes of a mnemonic that has DIR, DIR,X or DIR,Y, ABS, and ABS,X or ABS,Y. -/
def MemMode.pick (o : MemMode) (dir dirIndexed abs absIndexed : Byte) : List Byte :=
  match o with
  | .dir _ => dir :: o.bytes
  | .dirX _ | .dirY _ => dirIndexed :: o.bytes
  | .abs _ => abs :: o.bytes
  | .absX _ | .absY _ => absIndexed :: o.bytes
  | _ => []

/-- A read-modify-write instruction: its code in mode A and in DIR, DIR,X, ABS, ABS,X (R152, R180). -/
def Dest.bytes (a dir dirX abs absX : Byte) : Dest → List Byte
  | .acc r => r.lead ++ [a]
  | .mem o => o.pick dir dirX abs absX

/-- The bytes of a well-formed instruction under the width flags `m` and `x` (R71, R78, R80, R81). -/
def encode (m x : Bool) : Instr → List Byte
  | .ora r o => r.lead ++ groupBytes m 0x00 o
  | .and r o => r.lead ++ groupBytes m 0x20 o
  | .eor r o => r.lead ++ groupBytes m 0x40 o
  | .adc r o => r.lead ++ groupBytes m 0x60 o
  | .sta r o => r.lead ++ groupBytes m 0x80 (.mem o)
  | .lda r o => r.lead ++ groupBytes m 0xA0 o
  | .cmp r o => r.lead ++ groupBytes m 0xC0 o
  | .sbc r o => r.lead ++ groupBytes m 0xE0 o
  | .mpy o => 0x89 :: groupBytes m 0x00 o
  | .div o => 0x89 :: groupBytes m 0x20 o
  | .ldx (.imm v) => 0xA2 :: immBytes x v
  | .ldx (.mem o) => o.pick 0xA6 0xB6 0xAE 0xBE
  | .ldy (.imm v) => 0xA0 :: immBytes x v
  | .ldy (.mem o) => o.pick 0xA4 0xB4 0xAC 0xBC
  | .cpx (.imm v) => 0xE0 :: immBytes x v
  | .cpx (.mem o) => o.pick 0xE4 0xE4 0xEC 0xEC
  | .cpy (.imm v) => 0xC0 :: immBytes x v
  | .cpy (.mem o) => o.pick 0xC4 0xC4 0xCC 0xCC
  | .stx o => o.pick 0x86 0x96 0x8E 0x8E
  | .sty o => o.pick 0x84 0x94 0x8C 0x8C
  | .ldm o imm => o.pick 0x64 0x74 0x9C 0x9E ++ immBytes m imm
  | .ldt imm => [0x89, 0xC2, imm]
  | .inc d => d.bytes 0x3A 0xE6 0xF6 0xEE 0xFE
  | .dec d => d.bytes 0x1A 0xC6 0xD6 0xCE 0xDE
  | .asl d => d.bytes 0x0A 0x06 0x16 0x0E 0x1E
  | .rol d => d.bytes 0x2A 0x26 0x36 0x2E 0x3E
  | .lsr d => d.bytes 0x4A 0x46 0x56 0x4E 0x5E
  | .ror d => d.bytes 0x6A 0x66 0x76 0x6E 0x7E
  | .rla imm => [0x89, 0x49] ++ immBytes m imm
  | .inx => [0xE8]
  | .iny => [0xC8]
  | .dex => [0xCA]
  | .dey => [0x88]
  | .bpl rr => [0x10, rr]
  | .bmi rr => [0x30, rr]
  | .bvc rr => [0x50, rr]
  | .bvs rr => [0x70, rr]
  | .bcc rr => [0x90, rr]
  | .bcs rr => [0xB0, rr]
  | .bne rr => [0xD0, rr]
  | .beq rr => [0xF0, rr]
  | .bra (.short rr) => [0x80, rr]
  | .bra (.long rr) => 0x82 :: wordBytes rr
  | .bbs o imm rr => o.pick 0x24 0x24 0x2C 0x2C ++ immBytes m imm ++ [rr]
  | .bbc o imm rr => o.pick 0x34 0x34 0x3C 0x3C ++ immBytes m imm ++ [rr]
  | .seb o imm => o.pick 0x04 0x04 0x0C 0x0C ++ immBytes m imm
  | .clb o imm => o.pick 0x14 0x14 0x1C 0x1C ++ immBytes m imm
  | .jmp (.abs a) => 0x4C :: wordBytes a
  | .jmp (.abl a) => 0x5C :: longBytes a
  | .jmp (.absInd a) => 0x6C :: wordBytes a
  | .jmp (.absIndL a) => 0xDC :: wordBytes a
  | .jmp (.absXInd a) => 0x7C :: wordBytes a
  | .jsr (.abs a) => 0x20 :: wordBytes a
  | .jsr (.abl a) => 0x22 :: longBytes a
  | .jsr (.absXInd a) => 0xFC :: wordBytes a
  | .rts => [0x60]
  | .rtl => [0x6B]
  | .pha => [0x48]
  | .phb => [0x42, 0x48]
  | .phd => [0x0B]
  | .phg => [0x4B]
  | .php => [0x08]
  | .pht => [0x8B]
  | .phx => [0xDA]
  | .phy => [0x5A]
  | .pla => [0x68]
  | .plb => [0x42, 0x68]
  | .pld => [0x2B]
  | .plp => [0x28]
  | .plt => [0xAB]
  | .plx => [0xFA]
  | .ply => [0x7A]
  | .pea imm => 0xF4 :: wordBytes imm
  | .pei dd => [0xD4, dd]
  | .per imm => 0x62 :: wordBytes imm
  | .psh nn => [0xEB, nn]
  | .pul nn => [0xFB, nn]
  | .tad => [0x5B]
  | .tbd => [0x42, 0x5B]
  | .tas => [0x1B]
  | .tbs => [0x42, 0x1B]
  | .tax => [0xAA]
  | .tay => [0xA8]
  | .tbx => [0x42, 0xAA]
  | .tby => [0x42, 0xA8]
  | .tda => [0x7B]
  | .tdb => [0x42, 0x7B]
  | .tsa => [0x3B]
  | .tsb => [0x42, 0x3B]
  | .tsx => [0xBA]
  | .txa => [0x8A]
  | .txb => [0x42, 0x8A]
  | .txs => [0x9A]
  | .txy => [0x9B]
  | .tya => [0x98]
  | .tyb => [0x42, 0x98]
  | .tyx => [0xBB]
  | .xab => [0x89, 0x28]
  | .clc => [0x18]
  | .cli => [0x58]
  | .clm => [0xD8]
  | .clv => [0xB8]
  | .clp imm => [0xC2, imm]
  | .sec => [0x38]
  | .sei => [0x78]
  | .sem => [0xF8]
  | .sep imm => [0xE2, imm]
  | .mvn n1 n2 => [0x54, n1, n2]
  | .mvp n1 n2 => [0x44, n1, n2]
  | .nop => [0xEA]
  | .brk nn => [0x00, nn]
  | .rti => [0x40]
  | .stp => [0xDB]
  | .wit => [0xCB]

end Sys2Proof
end

