-- ==== Sys2Proof/Machine/PS.lean ====
section
/-! DEFINITION. The processor status register PS: its eleven defined bits and its two stored bytes (10_state.md R17 to R28). -/

namespace Sys2Proof.Machine

/-- The processor status register (R17), one field per defined bit. Bits 15 to 11 read 0 and ignore writes (R28),
so they hold nothing. -/
structure PS where
  /-- N, negative flag, PS[7] (R26). -/
  n : Bool
  /-- V, overflow flag, PS[6] (R25). -/
  v : Bool
  /-- m, data length selection flag, PS[5]: 1 selects 8 bits (R24). -/
  m : Bool
  /-- x, index register length selection flag, PS[4]: 1 selects 8 bits (R23). -/
  x : Bool
  /-- D, decimal operation mode flag, PS[3] (R21). -/
  d : Bool
  /-- I, interrupt disable flag, PS[2] (R20). -/
  i : Bool
  /-- Z, zero flag, PS[1] (R19). -/
  z : Bool
  /-- C, carry flag, PS[0] (R18). -/
  c : Bool
  /-- IPL, processor interrupt priority level, PS[10:8] (R27). -/
  ipl : BitVec 3
deriving DecidableEq, Repr

/-- PSL, PS[7:0] = N V m x D I Z C (R17). -/
def PS.low (p : PS) : Byte :=
  BitVec.ofBool p.n ++ BitVec.ofBool p.v ++ BitVec.ofBool p.m ++ BitVec.ofBool p.x ++
    BitVec.ofBool p.d ++ BitVec.ofBool p.i ++ BitVec.ofBool p.z ++ BitVec.ofBool p.c

/-- PSH, PS[15:8]: IPL in bits 2 to 0, the five undescribed bits 0 (R17, R28). -/
def PS.high (p : PS) : Byte := p.ipl.setWidth 8

/-- PS as the 16-bit word PSH : PSL (R17). -/
def PS.toWord (p : PS) : Word := wordOf p.high p.low

/-- Write PSL, leaving IPL (R294, R298). -/
def PS.withLow (p : PS) (b : Byte) : PS :=
  { n := b.getLsbD 7, v := b.getLsbD 6, m := b.getLsbD 5, x := b.getLsbD 4,
    d := b.getLsbD 3, i := b.getLsbD 2, z := b.getLsbD 1, c := b.getLsbD 0, ipl := p.ipl }

/-- PS pulled from the stack: `PS[7:0] <- lo; PS[10:8] <- hi[2:0]`, bits 7 to 3 of `hi` dropped (R243, R28). -/
def PS.ofBytes (hi lo : Byte) : PS :=
  { n := lo.getLsbD 7, v := lo.getLsbD 6, m := lo.getLsbD 5, x := lo.getLsbD 4,
    d := lo.getLsbD 3, i := lo.getLsbD 2, z := lo.getLsbD 1, c := lo.getLsbD 0, ipl := hi.setWidth 3 }

end Sys2Proof.Machine
end

