-- ==== Sys2Proof/Config.lean ====
section
/-! DEFINITION. What an implementation fixes (the named parameters of 00_scope.md R6) and the free values the spec leaves
open ("any value", 93_implementation_defined.md section 1). -/

namespace Sys2Proof

/-- `PROCESSOR_MODE` (R6). `microprocessor` is treated exactly as `memoryExpansion`. -/
inductive ProcessorMode where
  | singleChip
  | memoryExpansion
  | microprocessor
deriving DecidableEq, Repr

/-- What stands at an address, per `MEM_MAP` (R56). -/
inductive MemKind where
  | ram
  | rom
  | device
  | absent
deriving DecidableEq, Repr

/-- One record of `MEM_MAP`: the addresses `first` to `last` (both included) are of one kind (R56). -/
structure Region where
  first : Addr
  last : Addr
  kind : MemKind
deriving DecidableEq, Repr

/-- One record of `INT_SOURCES` (R338). -/
structure IntSource where
  name : String
  /-- Address of the two bytes holding the handler's entry address. DESIGN CHOICE (log 34): any 24-bit address, where R338 has
  one in bank 0. -/
  vector : Addr
  /-- Priority level of the request, 0 to 7. -/
  level : BitVec 3
  /-- Whether I and IPL gate the request. -/
  maskable : Bool
deriving DecidableEq, Repr

/-- Whether the CPU executes instructions (R345, R346, R360). -/
inductive Machine.RunState where
  | running
  /-- After STP (R345). -/
  | stopped
  /-- After WIT (R346). -/
  | waiting
deriving DecidableEq, Repr

/-- `RESET_STATE` (R360): one field for each row of its table, since a user who knows the part can override every row. Bits 15
to 11 of PS are no field: they read 0 (R28). -/
structure ResetState where
  a : Word
  b : Word
  x : Word
  y : Word
  sp : Word
  dpr : Word
  pg : Byte
  dt : Byte
  ps : Machine.PS
  /-- PC; none is the default, the two bytes at `RESET_VECTOR`. -/
  pc : Option Word
  /-- The CPU run state. -/
  run : Machine.RunState
  /-- The pending requests, as positions in `INT_SOURCES`. -/
  pending : List Nat
  /-- Memory; none is the default, unchanged by reset. Otherwise these bytes, the first entry of an address in force, and every
  other byte as nothing has written it (log 3). -/
  memory : Option (List (Addr × Byte))
deriving DecidableEq, Repr

/-- The parameters of R6, fixed for a run: no step changes them. -/
structure Config where
  mode : ProcessorMode
  /-- `BRK_VECTOR`. DESIGN CHOICE (log 34): any 24-bit address, where D7 has one in bank 0. -/
  brkVector : Addr
  /-- `RESET_VECTOR`. DESIGN CHOICE (log 34): any 24-bit address, where D7 has one in bank 0. -/
  resetVector : Addr
  resetState : ResetState
  intSources : List IntSource
  /-- `MEM_MAP`: the first region that holds an address gives its kind; an address in no region is RAM. -/
  memMap : List Region
deriving DecidableEq, Repr

/-- The defaults of `RESET_STATE` (R360). DESIGN CHOICE (log 2): A, B, X, Y and N, V, Z, C, which the spec gives no value,
hold 0, and S holds 027F, the value of the source's own example (R362). -/
def ResetState.default : ResetState :=
  { a := 0, b := 0, x := 0, y := 0, sp := 0x027F, dpr := 0, pg := 0, dt := 0,
    ps := { n := false, v := false, m := false, x := false, d := false, i := true, z := false, c := false, ipl := 0 },
    pc := none, run := .running, pending := [], memory := none }

/-- The defaults of R6. -/
def Config.default : Config :=
  { mode := .memoryExpansion, brkVector := 0x00FFFA, resetVector := 0x00FFFE, resetState := ResetState.default,
    intSources := [], memMap := [] }

/-- The free values: the `k`-th word the machine draws wherever the spec says "any value". It has no body, so no proof can
see what it is. State's counter `free` says how many were drawn. -/
opaque Config.freeWord : Nat → Word

end Sys2Proof
end

