-- ==== Sys2Proof/Machine/Memory.lean ====
section
/-! DEFINITION. Memory: 2^24 bytes in one address space (20_memory.md R40), held as a list of (address, byte) pairs in one
canonical form. -/

namespace Sys2Proof.Machine

/-- The bytes of memory that differ from what an unlisted address reads as, by strictly rising address. -/
structure Memory where
  cells : List Host.Cell
deriving DecidableEq, Repr

/-- What an unlisted address reads as. DESIGN CHOICE (log 3): the spec leaves the initial contents to the user of the model
(R360); every byte nothing has written reads FF. -/
def unlistedByte : Byte := 0xFF

/-- Read one address of a cell list. -/
def cellsGet : List Host.Cell → Nat → Byte
  | [], _ => unlistedByte
  | (b, v) :: rest, a => if a = b then v else cellsGet rest a

/-- A cell, or none where the byte is what an unlisted address reads as. -/
def cellOrNone (a : Nat) (v : Byte) (rest : List Host.Cell) : List Host.Cell :=
  if v = unlistedByte then rest else (a, v) :: rest

/-- Write one address of a cell list, keeping the canonical form. -/
def cellsSet : List Host.Cell → Nat → Byte → List Host.Cell
  | [], a, v => cellOrNone a v []
  | (b, u) :: rest, a, v =>
    if a < b then cellOrNone a v ((b, u) :: rest)
    else if a = b then cellOrNone a v rest
    else (b, u) :: cellsSet rest a v

/-- All addresses of a cell list are at least `low`, strictly rising and below 2^24, and no cell holds the unlisted byte. -/
def cellsWf : Nat → List Host.Cell → Bool
  | _, [] => true
  | low, (b, v) :: rest => decide (low ≤ b) && decide (b < 2 ^ 24) && decide (v ≠ unlistedByte) && cellsWf (b + 1) rest

/-- The byte at an address. -/
def Memory.get (m : Memory) (a : Addr) : Byte := cellsGet m.cells a.toNat

/-- Memory with one byte written. -/
def Memory.set (m : Memory) (a : Addr) (v : Byte) : Memory := { cells := cellsSet m.cells a.toNat v }

/-- The canonical form holds. -/
def Memory.wf (m : Memory) : Bool := cellsWf 0 m.cells

/-- Memory with nothing listed. -/
def Memory.empty : Memory := { cells := [] }

end Sys2Proof.Machine
end

