-- ==== Sys2Proof/Machine/State.lean ====
section
/-! DEFINITION. The state of the machine as plain data, the reasons a step stops, and the machine right after reset. -/

namespace Sys2Proof.Machine

/-- Why the machine stops with a fault. -/
inductive Fault where
  /-- The first byte has no entry in Table 1 (R78, R79: only 02). Raised by the fetch. Safe: the spec gives no continuation. -/
  | undefinedCode (code : Byte)
  /-- The byte after the 42 code has no entry in Table 2 (R79, R80). Raised by the fetch. Safe: the spec gives no continuation. -/
  | undefinedCodeB (code : Byte)
  /-- The byte after the 89 code has no entry in Table 3 (R79, R81). Raised by the fetch. Safe: the spec gives no continuation. -/
  | undefinedCode89 (code : Byte)
deriving DecidableEq, Repr

/-- Why the model refuses to go on: the spec's class "refuse" (93_implementation_defined.md section 1). -/
inductive Refusal where
  /-- An instruction with no meaning yet. Raised by exec's arms only. Safe. -/
  | notModelled (mnemonic : String)
  /-- An access to an address `MEM_MAP` marks absent (R56, U12). Raised by every read, write and fetch. Safe. -/
  | absentAddress (a : Addr)
  /-- An access to an address `MEM_MAP` marks device, whose behaviour the user has not supplied (R56, U12). Raised by every
  read, write and fetch. Safe. -/
  | deviceAddress (a : Addr)
  /-- A write to an address `MEM_MAP` marks ROM (R56, U12). Raised by every write. Safe. -/
  | romWrite (a : Addr)
  /-- An instruction stores into itself or into the 3 bytes after its last byte (R58, U15). Raised by every store of an
  instruction. Safe. -/
  | storeIntoPrefetched (a : Addr)
  /-- A stack-relative access whose `S + nn` (for the pointer, `S + nn + 1`) exceeds FFFF (R106, R107, U16). Safe. -/
  | stackRelativeOverflow
  /-- JMP or JSR (ABS,X) whose `mmll + Xi + 1` exceeds FFFF (R99, U17). Safe. -/
  | indexedIndirectOverflow
  /-- DIV with divisor 0 (R192, U6a). Raised by DIV. Safe. -/
  | divideByZero
  /-- PUL with mask bit 6 set (R254, U10). Raised by PUL. Safe. -/
  | pulProgramBank
  /-- In single-chip mode an instruction whose result would make PG or DT non-zero (R365, U8). Safe. -/
  | singleChipBank
deriving DecidableEq, Repr

/-- What the environment presents at one instruction boundary (R338, R361). -/
structure Input where
  /-- Reset is applied at this boundary. -/
  reset : Bool
  /-- The interrupt sources, by their position in `INT_SOURCES`, whose request is raised at this boundary. -/
  requests : List Nat
deriving DecidableEq, Repr

/-- The machine (10_state.md R10, R31; 60_exceptions.md R338, R345, R346). -/
structure State where
  /-- Accumulator A (R11). -/
  a : Word
  /-- Accumulator B (R11). -/
  b : Word
  /-- Index register X (R12). -/
  x : Word
  /-- Index register Y (R12). -/
  y : Word
  /-- Stack pointer S (R13). -/
  sp : Word
  /-- Program counter PC (R14). -/
  pc : Word
  /-- Program bank register PG (R14). -/
  pg : Byte
  /-- Data bank register DT (R15). -/
  dt : Byte
  /-- Direct page register DPR (R16). -/
  dpr : Word
  /-- Processor status register PS (R17). -/
  ps : PS
  /-- Running, Stopped or Waiting (R345, R346). -/
  run : RunState
  /-- The memory (R40). -/
  mem : Memory
  /-- Pending interrupt requests, as positions in `INT_SOURCES`, without repeats (R31, R338). -/
  pending : List Nat
  /-- What the environment presents at the boundaries to come, nearest first; nothing once the list is empty (R338, R361). -/
  inputs : List Input
  /-- The parameters of R6, fixed for a run. -/
  cfg : Config
  /-- The MODEL's own: how many free values were drawn from `Config.freeWord`. -/
  free : Nat
  /-- The MODEL's own: the lower bound of the elapsed cycles of φ (R372, R373). -/
  cycles : Nat
deriving DecidableEq, Repr

/-- What one step answers. -/
abbrev Result := Host.Outcome State Fault Refusal

/-- The machine right after reset: the default `RESET_STATE` of R360. PC is what `MemRead(RESET_VECTOR, 2)` gives on memory
with nothing listed. DESIGN CHOICE (log 2): the values of A, B, X, Y, S, N, V, Z and C. -/
def State.reset : State :=
  { a := 0, b := 0, x := 0, y := 0, sp := 0x027F,
    pc := wordOf (Memory.empty.get 0x00FFFF) (Memory.empty.get 0x00FFFE),
    pg := 0, dt := 0, dpr := 0, ps := ResetState.default.ps, run := .running, mem := Memory.empty,
    pending := [], inputs := [], cfg := Config.default, free := 0, cycles := 0 }

end Sys2Proof.Machine
end

