-- ==== Sys2Proof/Machine/Ops.lean ====
section
/-! DEFINITION. The named operations over registers, memory and the stack, and taking and returning from an interrupt
(20_memory.md, 60_exceptions.md R337, R341). -/

namespace Sys2Proof.Machine

/-- What an operation answers: a value, or why the model refuses to go on. -/
abbrev Res (α : Type) := Except Refusal α

/-- The registers the stack instructions move (R231 to R254). -/
inductive Reg where
  | a
  | b
  | x
  | y
  | dpr
  | dt
  | pg
  | ps
deriving DecidableEq, Repr

/-! Registers -/

/-- `mw`: the width flag m selects for accumulator and memory operations (R7, R24). -/
def State.mw (s : State) : Width := widthOf s.ps.m

/-- `xw`: the width flag x selects for index register operations (R7, R23). -/
def State.xw (s : State) : Width := widthOf s.ps.x

/-- All 16 bits of an accumulator (R11). -/
def State.acc (s : State) : Acc → Word
  | .a => s.a
  | .b => s.b

/-- Write the low `w` bits of an accumulator (R11). -/
def State.setAcc (s : State) (r : Acc) (w : Width) (v : Word) : State :=
  match r with
  | .a => { s with a := mergeLow w s.a v }
  | .b => { s with b := mergeLow w s.b v }

/-- Write the low `w` bits of X (R12). -/
def State.setX (s : State) (w : Width) (v : Word) : State := { s with x := mergeLow w s.x v }

/-- Write the low `w` bits of Y (R12). -/
def State.setY (s : State) (w : Width) (v : Word) : State := { s with y := mergeLow w s.y v }

/-- Write S (R13). -/
def State.setSp (s : State) (v : Word) : State := { s with sp := v }

/-- Write DPR (R16). -/
def State.setDpr (s : State) (v : Word) : State := { s with dpr := v }

/-- Write DT (R15). -/
def State.setDt (s : State) (v : Byte) : State := { s with dt := v }

/-- Write PG (R14). -/
def State.setPg (s : State) (v : Byte) : State := { s with pg := v }

/-- Replace the memory (R40). -/
def State.setMem (s : State) (m : Memory) : State := { s with mem := m }

/-- Replace the pending requests (R338). -/
def State.setPending (s : State) (l : List Nat) : State := { s with pending := l }

/-- Write PS (R17). -/
def State.setPs (s : State) (p : PS) : State := { s with ps := p }

/-- Enter a run state (R345, R346). -/
def State.setRun (s : State) (r : RunState) : State := { s with run := r }

/-- `Xi`: the index value of X (R84). -/
def State.xi (s : State) : Word := truncTo s.xw s.x

/-- `Yi`: the index value of Y (R84). -/
def State.yi (s : State) : Word := truncTo s.xw s.y

/-! Program counter -/

/-- PG:PC (R14). -/
def State.pcAddr (s : State) : Addr := addrOf s.pg s.pc

/-- `NextPC` of an instruction of `len` bytes: PG:PC + len modulo 2^24 (R22). -/
def State.nextPC (s : State) (len : Nat) : Addr := s.pcAddr + BitVec.ofNat 24 len

/-- `PG:PC <- t` (R22). -/
def State.goto (s : State) (t : Addr) : State := { s with pg := bankOf t, pc := offsetOf t }

/-- `PC <- t`, PG unchanged (R212). -/
def State.setPc (s : State) (t : Word) : State := { s with pc := t }

/-- `PG:PC <- NextPC` (R22). -/
def State.advance (s : State) (len : Nat) : State := s.goto (s.nextPC len)

/-! Free values -/

/-- The next free value (Config.lean). -/
def State.drawn (s : State) : Word := Config.freeWord s.free

/-- The next free value is used up. -/
def State.drew (s : State) : State := { s with free := s.free + 1 }

/-! Memory -/

/-- What `MEM_MAP` says of an address: the first region that holds it, RAM where none does (R56). -/
def kindIn : List Region → Addr → MemKind
  | [], _ => .ram
  | r :: rest, a => if r.first.toNat ≤ a.toNat ∧ a.toNat ≤ r.last.toNat then r.kind else kindIn rest a

/-- What stands at an address. -/
def State.kindAt (s : State) (a : Addr) : MemKind := kindIn s.cfg.memMap a

/-- Read one byte (R43); refused where `MEM_MAP` says device or absent (R56, U12). -/
def State.readByte (s : State) (a : Addr) : Res Byte :=
  match s.kindAt a with
  | .ram => .ok (s.mem.get a)
  | .rom => .ok (s.mem.get a)
  | .device => .error (.deviceAddress a)
  | .absent => .error (.absentAddress a)

/-- Write one byte (R43); refused where `MEM_MAP` says ROM, device or absent (R56, U12). -/
def State.writeByte (s : State) (a : Addr) (v : Byte) : Res State :=
  match s.kindAt a with
  | .ram => .ok (s.setMem (s.mem.set a v))
  | .rom => .error (.romWrite a)
  | .device => .error (.deviceAddress a)
  | .absent => .error (.absentAddress a)

/-- `MemRead(a, 2)`: low byte at `a`, high byte at `a + 1` modulo 2^24 (R42, R43). -/
def State.readWord (s : State) (a : Addr) : Res Word := do
  let lo ← s.readByte a
  let hi ← s.readByte (a + 1)
  pure (wordOf hi lo)

/-- `MemRead(a, 3)`: low, middle, bank (R42, R43). -/
def State.readLong (s : State) (a : Addr) : Res Addr := do
  let lo ← s.readByte a
  let mid ← s.readByte (a + 1)
  let hi ← s.readByte (a + 2)
  pure (addrOf hi (wordOf mid lo))

/-- `MemRead(a, w/8)`, zero-extended to a word (R43, R45). -/
def State.readData (s : State) (w : Width) (a : Addr) : Res Word :=
  match w with
  | .w8 => do
    let v ← s.readByte a
    pure (wordOfByte v)
  | .w16 => s.readWord a

/-- `a` is a byte of an instruction of `len` bytes at PG:PC or one of the 3 bytes after its last byte (R58). -/
def State.inPrefetch (s : State) (len : Nat) (a : Addr) : Bool := decide ((a - s.pcAddr).toNat < len + 3)

/-- A byte store. By an instruction of `n` bytes (`some n`) it is refused where the bytes may already be in the instruction
queue buffer (R58, U15); `none` stands for a store that no instruction makes (interrupt entry). -/
def State.storeByte (s : State) (len : Option Nat) (a : Addr) (v : Byte) : Res State :=
  match len with
  | none => s.writeByte a v
  | some n => if s.inPrefetch n a then .error (.storeIntoPrefetched a) else s.writeByte a v

/-- `MemWrite(a, w/8, v)` by an instruction of `len` bytes: low byte at `a` (R42, R43). -/
def State.storeData (s : State) (len : Nat) (w : Width) (a : Addr) (v : Word) : Res State :=
  match w with
  | .w8 => s.storeByte (some len) a (lowByte v)
  | .w16 => do
    let t ← s.storeByte (some len) a (lowByte v)
    t.storeByte (some len) (a + 1) (highByte v)

/-! The stack (R47) -/

/-- The address S points at: bank 0 (R47). -/
def State.stackAddr (s : State) : Addr := addrOf 0 s.sp

/-- `Push8(v)`: store at S, then S - 1 modulo 2^16 (R47). -/
def State.push8 (s : State) (len : Option Nat) (v : Byte) : Res State := do
  let t ← s.storeByte len s.stackAddr v
  pure (t.setSp (s.sp - 1))

/-- `Push16(v)`: high byte, then low byte (R47). -/
def State.push16 (s : State) (len : Option Nat) (v : Word) : Res State := do
  let t ← s.push8 len (highByte v)
  t.push8 len (lowByte v)

/-- `Pull8()`: S + 1 modulo 2^16, then load at S (R47). -/
def State.pull8 (s : State) : Res (Byte × State) := do
  let t := s.setSp (s.sp + 1)
  let v ← t.readByte t.stackAddr
  pure (v, t)

/-- `Pull16()`: low byte, then high byte (R47). -/
def State.pull16 (s : State) : Res (Word × State) := do
  let (lo, t) ← s.pull8
  let (hi, u) ← t.pull8
  pure (wordOf hi lo, u)

/-- Push the low `w` bits of a register, upper byte first (R230). -/
def State.pushData (s : State) (len : Option Nat) (w : Width) (v : Word) : Res State :=
  match w with
  | .w8 => s.push8 len (lowByte v)
  | .w16 => s.push16 len v

/-- Pull `w` bits, lower byte first (R230). -/
def State.pullData (s : State) (w : Width) : Res (Word × State) :=
  match w with
  | .w8 => do
    let (v, t) ← s.pull8
    pure (wordOfByte v, t)
  | .w16 => s.pull16

/-- Push one register as its single push instruction does (R231 to R239): A, B by m, X, Y by x, DPR and PS 16 bits, DT and PG
8 bits. -/
def State.pushReg (s : State) (len : Option Nat) : Reg → Res State
  | .a => s.pushData len s.mw s.a
  | .b => s.pushData len s.mw s.b
  | .x => s.pushData len s.xw s.x
  | .y => s.pushData len s.xw s.y
  | .dpr => s.push16 len s.dpr
  | .dt => s.push8 len s.dt
  | .pg => s.push8 len s.pg
  | .ps => s.push16 len s.ps.toWord

/-- Pull one register, no flag written (R240 to R246, R254, R215): A and B of width `mw`, X and Y of width `xw`. -/
def State.pullReg (s : State) (mw xw : Width) : Reg → Res State
  | .a => do
    let (v, t) ← s.pullData mw
    pure (t.setAcc .a mw v)
  | .b => do
    let (v, t) ← s.pullData mw
    pure (t.setAcc .b mw v)
  | .x => do
    let (v, t) ← s.pullData xw
    pure (t.setX xw v)
  | .y => do
    let (v, t) ← s.pullData xw
    pure (t.setY xw v)
  | .dpr => do
    let (v, t) ← s.pull16
    pure (t.setDpr v)
  | .dt => do
    let (v, t) ← s.pull8
    pure (t.setDt v)
  | .pg => do
    let (v, t) ← s.pull8
    pure (t.setPg v)
  | .ps => do
    let (v, t) ← s.pull16
    pure (t.setPs (PS.ofBytes (highByte v) (lowByte v)))

/-! Ending an instruction -/

/-- PG and DT are legal in the processor mode: in single-chip mode both are 00 (R365). -/
def banksLegal (c : Config) (pg dt : Byte) : Bool := c.mode != .singleChip || (pg == 0 && dt == 0)

/-- The end of an instruction: its next state, refused in single-chip mode where PG or DT would be non-zero (R365, U8). -/
def complete (r : Res State) : Result :=
  match r with
  | .ok s => if banksLegal s.cfg s.pg s.dt then .next s else .refused .singleChipBank
  | .error e => .refused e

/-- The end of an event that is no instruction (interrupt entry, reset). -/
def land (r : Res State) : Result :=
  match r with
  | .ok s => .next s
  | .error e => .refused e

/-! Interrupts (60_exceptions.md) -/

/-- TAKING AN INTERRUPT, by BRK and by a hardware request (R337): push PG, PCH, PCL of `ret`, then PSH, PSL as they are before
entry; I becomes 1; a hardware request (`level`) also writes IPL; PC is loaded from the vector, PG becomes 00; the CPU runs.
`len` is the length of BRK, none for a hardware request. DESIGN CHOICE (log 34): a vector outside bank 0 is read where it
lies. -/
def State.enterInterrupt (s : State) (len : Option Nat) (ret vector : Addr) (level : Option (BitVec 3)) : Res State := do
  let s1 ← s.push8 len (bankOf ret)
  let s2 ← s1.push16 len (offsetOf ret)
  let s3 ← s2.push16 len s.ps.toWord
  let target ← s3.readWord vector
  pure ((((s3.setPs { s.ps with i := true, ipl := level.getD s.ps.ipl }).setPc target).setPg 0).setRun .running)

/-- RETURNING FROM AN INTERRUPT (R341): pull PSL, PSH, PCL, PCH, PG. -/
def State.leaveInterrupt (s : State) : Res State := do
  let t ← s.pullReg s.mw s.xw .ps
  let (v, u) ← t.pull16
  let w ← u.pullReg s.mw s.xw .pg
  pure (w.setPc v)

end Sys2Proof.Machine
end

