-- ==== Sys2Proof/Machine/Flags.lean ====
section
/-! DEFINITION. Results and flags of the arithmetic, compare, logic, shift, multiply and divide instructions
(41_arith_logic.md, 42_shift_rotate.md, 43_muldiv.md). Operands are `v[w-1:0]` as words below `2^w`. -/

namespace Sys2Proof.Machine

/-- `SetNZ_w(v)` (R7). -/
def PS.withNZ (p : PS) (w : Width) (v : Word) : PS :=
  { p with n := topBit w v, z := truncTo w v == 0 }

/-- `SetNZ_w(v)` on the state (R7). -/
def State.setNZ (s : State) (w : Width) (v : Word) : State := s.setPs (s.ps.withNZ w v)

/-- N, V, Z, C from a free word: bits 7, 6, 1, 0 (the spec's "any value"). -/
def PS.freeNVZC (p : PS) (f : Word) : PS :=
  { p with n := f.getLsbD 7, v := f.getLsbD 6, z := f.getLsbD 1, c := f.getLsbD 0 }

/-- N, V, Z from a free word (R142). -/
def PS.freeNVZ (p : PS) (f : Word) : PS := { p with n := f.getLsbD 7, v := f.getLsbD 6, z := f.getLsbD 1 }

/-- N, V from a free word (R144). -/
def PS.freeNV (p : PS) (f : Word) : PS := { p with n := f.getLsbD 7, v := f.getLsbD 6 }

/-! Binary addition and subtraction -/

/-- `a + M + C` exactly (R141). -/
def sumOf (a m : Word) (carry : Bool) : Nat := a.toNat + m.toNat + carry.toNat

/-- `a - M - (1 - C)` exactly (R143). -/
def differenceOf (a m : Word) (carry : Bool) : Int := (a.toNat : Int) - m.toNat - (1 - (carry.toNat : Int))

/-- `d mod 2^w` as a word (R143, R145). -/
def narrowInt (w : Width) (d : Int) : Word := BitVec.ofInt 16 (d % (2 ^ bitsOf w : Nat))

/-- ADC, D = 0: the result (R141). -/
def addResult (w : Width) (a m : Word) (carry : Bool) : Word := narrow w (sumOf a m carry)

/-- ADC, D = 0: PS (R141). -/
def PS.afterAdd (p : PS) (w : Width) (a m : Word) : PS :=
  let r := addResult w a m p.c
  { p.withNZ w r with
    c := decide (2 ^ bitsOf w ≤ sumOf a m p.c)
    v := topBit w a == topBit w m && topBit w r != topBit w a }

/-- SBC, D = 0: the result (R143). -/
def subResult (w : Width) (a m : Word) (carry : Bool) : Word := narrowInt w (differenceOf a m carry)

/-- SBC, D = 0: PS (R143). -/
def PS.afterSub (p : PS) (w : Width) (a m : Word) : PS :=
  let r := subResult w a m p.c
  { p.withNZ w r with
    c := decide (0 ≤ differenceOf a m p.c)
    v := topBit w a != topBit w m && topBit w r != topBit w a }

/-- CMP, CPX, CPY: PS after `a - M` (R145 to R147). The carry does not enter. -/
def PS.afterCompare (p : PS) (w : Width) (a m : Word) : PS :=
  let d : Int := (a.toNat : Int) - m.toNat
  { p.withNZ w (narrowInt w d) with c := decide (0 ≤ d) }

/-! Decimal addition and subtraction: packed BCD, one digit per 4 bits (R142) -/

/-- Digits in an operand of width `w`: w/4 (R142). -/
def digitsOf (w : Width) : Nat := bitsOf w / 4

/-- The lowest `k` digits are all at most 9 (R142). -/
def bcdValid : Nat → Nat → Bool
  | 0, _ => true
  | k + 1, n => decide (n % 16 ≤ 9) && bcdValid k (n / 16)

/-- The decimal value of the lowest `k` digits (R142). -/
def bcdValue : Nat → Nat → Nat
  | 0, _ => 0
  | k + 1, n => n % 16 + 10 * bcdValue k (n / 16)

/-- `BCD(n)`, `k` digits (R142). -/
def toBcd : Nat → Nat → Nat
  | 0, _ => 0
  | k + 1, n => n % 10 + 16 * toBcd k (n / 10)

/-- Both operands are valid packed BCD (R142, R144). -/
def decimalValid (w : Width) (a m : Word) : Bool :=
  bcdValid (digitsOf w) a.toNat && bcdValid (digitsOf w) m.toNat

/-- `da + dm + C` (R142). -/
def decimalSum (w : Width) (a m : Word) (carry : Bool) : Nat :=
  bcdValue (digitsOf w) a.toNat + bcdValue (digitsOf w) m.toNat + carry.toNat

/-- `da - dm - (1 - C)` (R144). -/
def decimalDifference (w : Width) (a m : Word) (carry : Bool) : Int :=
  (bcdValue (digitsOf w) a.toNat : Int) - bcdValue (digitsOf w) m.toNat - (1 - (carry.toNat : Int))

/-- ADC, D = 1, valid digits: the result (R142). -/
def decimalAddResult (w : Width) (a m : Word) (carry : Bool) : Word :=
  BitVec.ofNat 16 (toBcd (digitsOf w) (decimalSum w a m carry % 10 ^ digitsOf w))

/-- SBC, D = 1, valid digits: the result, `BCD(d)` or `BCD(d + 10^(w/4))` (R144). -/
def decimalSubResult (w : Width) (a m : Word) (carry : Bool) : Word :=
  BitVec.ofNat 16 (toBcd (digitsOf w) (decimalDifference w a m carry % (10 ^ digitsOf w : Nat)).toNat)

/-! Shifts (R181 to R185): result and carry out -/

/-- The four one-bit shifts. -/
inductive Shift where
  | asl
  | lsr
  | rol
  | ror
deriving DecidableEq, Repr

/-- The result of a one-bit shift of `v`, old carry `c` (R181 to R184). -/
def Shift.result (k : Shift) (w : Width) (v : Word) (c : Bool) : Word :=
  match k with
  | .asl => narrow w (2 * v.toNat)
  | .lsr => narrow w (v.toNat / 2)
  | .rol => narrow w (2 * v.toNat + c.toNat)
  | .ror => narrow w (v.toNat / 2 + c.toNat * 2 ^ (bitsOf w - 1))

/-- The bit shifted out (R181 to R184). -/
def Shift.carry (k : Shift) (w : Width) (v : Word) : Bool :=
  match k with
  | .asl => topBit w v
  | .lsr => v.getLsbD 0
  | .rol => topBit w v
  | .ror => v.getLsbD 0

/-- PS after a one-bit shift (R181 to R184). -/
def PS.afterShift (p : PS) (k : Shift) (w : Width) (v : Word) : PS :=
  { p.withNZ w (k.result w v p.c) with c := k.carry w v }

/-- `w` bits rotated to the left by `n` bits: `(v << k) | (v >> (w - k))`, k = n mod w (R185). -/
def rotateLeft (w : Width) (v : Word) (n : Nat) : Word :=
  let k := n % bitsOf w
  narrow w (v.toNat * 2 ^ k + v.toNat / 2 ^ (bitsOf w - k))

/-! Multiply and divide -/

/-- `A x M`, unsigned and exact (R191). -/
def productOf (a m : Word) : Nat := a.toNat * m.toNat

/-- PS after MPY: N the top bit of the 2w-bit product, Z the whole product; C is any value (R191). -/
def PS.afterMultiply (p : PS) (w : Width) (a m : Word) (f : Word) : PS :=
  { p with n := (productOf a m).testBit (2 * bitsOf w - 1), z := productOf a m == 0, c := f.getLsbD 0 }

/-- The dividend B : A, each of `w` bits (R192). -/
def dividendOf (w : Width) (b a : Word) : Nat := b.toNat * 2 ^ bitsOf w + a.toNat

end Sys2Proof.Machine
end

