-- ==== Sys2Proof/Machine/Block.lean ====
section
/-! DEFINITION. MVN, MVP and NOP (48_block_misc.md). -/

namespace Sys2Proof.Machine

/-- The direction of a block transfer: MVN ascending, MVP descending (R310, R311). -/
inductive Direction where
  | ascending
  | descending
deriving DecidableEq, Repr

/-- The index value after one byte: ± 1 modulo `2^w` (R313). -/
def Direction.next (d : Direction) (w : Width) (v : Word) : Word :=
  match d with
  | .ascending => narrow w (v.toNat + 1)
  | .descending => narrowInt w ((v.toNat : Int) - 1)

/-- One byte of a block transfer from bank `n2` to bank `n1` (R310, R311, R313). With `open_` the byte stored is a free value. -/
def State.moveByte (s : State) (d : Direction) (n1 n2 : Byte) (open_ : Bool) : Res State := do
  let v ← s.readByte (addrOf n2 s.xi)
  let t ← s.storeByte (some 3) (addrOf n1 s.yi) (if open_ then lowByte s.drawn else v)
  let u := (t.setX s.xw (d.next s.xw s.xi)).setY s.xw (d.next s.xw s.yi)
  pure (if open_ then u.drew else u)

/-- `n` bytes of a block transfer. -/
def State.moveBytes (s : State) (d : Direction) (n1 n2 : Byte) (open_ : Bool) : Nat → Res State
  | 0 => .ok s
  | n + 1 => do
    let t ← s.moveByte d n1 n2 open_
    t.moveBytes d n1 n2 open_ n

/-- The byte count: A when m = 0, AL when m = 1 (R313). -/
def State.moveCount (s : State) : Nat := (truncTo s.mw s.a).toNat

/-- The blocks overlap the other way round than the instruction is meant for: the target bytes are any value (R313). -/
def State.moveOpen (s : State) (d : Direction) (n1 n2 : Byte) : Bool :=
  n1 == n2 &&
    match d with
    | .ascending => decide (s.xi.toNat < s.yi.toNat) && decide (s.yi.toNat < s.xi.toNat + s.moveCount)
    | .descending => decide (s.yi.toNat < s.xi.toNat) && decide (s.xi.toNat < s.yi.toNat + s.moveCount)

/-- The end state of a block transfer (R313): DT the target bank, A (AL when m = 1) all ones; after a count of 0 both are any
value, and two free values are drawn. -/
def State.moveEnd (s : State) (n1 : Byte) (count : Nat) : State :=
  if count = 0 then ((s.setAcc .a s.mw s.drawn).drew.setDt (lowByte s.drew.drawn)).drew
  else (s.setAcc .a s.mw 0xFFFF).setDt n1

/-- A block transfer (R310, R311, R313). In single-chip mode a target bank other than 00 is refused (R365). -/
def blockTransfer (d : Direction) (n1 n2 : Byte) (s : State) : Result :=
  complete do
    if s.cfg.mode = .singleChip ∧ n1 ≠ 0 then .error .singleChipBank
    else
      let t ← s.moveBytes d n1 n2 (s.moveOpen d n1 n2) s.moveCount
      pure ((t.moveEnd n1 s.moveCount).advance 3)

/-- MVN, BLK: code 54 (R310). -/
def execMvn (n1 : Byte) (n2 : Byte) (s : State) : Result := blockTransfer .ascending n1 n2 s

/-- MVP, BLK: code 44 (R311). -/
def execMvp (n1 : Byte) (n2 : Byte) (s : State) : Result := blockTransfer .descending n1 n2 s

/-- NOP, IMP: code EA (R312). -/
def execNop (s : State) : Result := complete (pure (s.advance 1))

end Sys2Proof.Machine
end

