-- ==== Sys2Proof/Machine/Operands.lean ====
section
/-! DEFINITION. The addressing modes: operand byte counts, effective addresses and operand values (30_encoding.md R71, R83 to
R108). -/

namespace Sys2Proof

/-- Operand bytes of a memory mode (R71). -/
def MemMode.length : MemMode → Nat
  | .dir _ | .dirX _ | .dirY _ | .dirInd _ | .dirXInd _ | .dirIndY _ | .dirIndL _ | .dirIndLY _ => 1
  | .abs _ | .absX _ | .absY _ => 2
  | .abl _ | .ablX _ => 3
  | .sr _ | .srIndY _ => 1

/-- Operand bytes of a source operand of width `w` (R71). -/
def Operand.length (w : Width) : Operand → Nat
  | .imm _ => Machine.bytesOf w
  | .mem o => o.length

/-- Code bytes of an instruction that names an accumulator: the B form has the leading byte 42 (R73). -/
def Acc.codeBytes : Acc → Nat
  | .a => 1
  | .b => 2

/-- Length of a read-modify-write instruction (R71). -/
def Dest.length : Dest → Nat
  | .acc r => r.codeBytes
  | .mem o => 1 + o.length

end Sys2Proof

namespace Sys2Proof.Machine

/-- The conditions of the conditional branches (R201 to R208). -/
inductive Cond where
  | cc
  | cs
  | eq
  | mi
  | ne
  | pl
  | vc
  | vs
deriving DecidableEq, Repr

/-- `zext_24(DPR) + zext_24(dd)`, carrying into bank 1 (R86). -/
def State.directAddr (s : State) (dd : Byte) : Addr := addrOfWord s.dpr + addrOfByte dd

/-- The effective address of a memory mode (R86 to R96, R106, R107). Sums are modulo 2^24 (R83). -/
def State.ea (s : State) : MemMode → Res Addr
  | .dir dd => .ok (s.directAddr dd)
  | .dirX dd => .ok (s.directAddr dd + addrOfWord s.xi)
  | .dirY dd => .ok (s.directAddr dd + addrOfWord s.yi)
  | .dirInd dd => do
    let p ← s.readWord (s.directAddr dd)
    pure (addrOf s.dt p)
  | .dirXInd dd => do
    let p ← s.readWord (s.directAddr dd + addrOfWord s.xi)
    pure (addrOf s.dt p)
  | .dirIndY dd => do
    let p ← s.readWord (s.directAddr dd)
    pure (addrOf s.dt p + addrOfWord s.yi)
  | .dirIndL dd => s.readLong (s.directAddr dd)
  | .dirIndLY dd => do
    let p ← s.readLong (s.directAddr dd)
    pure (p + addrOfWord s.yi)
  | .abs mmll => .ok (addrOf s.dt mmll)
  | .absX mmll => .ok (addrOf s.dt mmll + addrOfWord s.xi)
  | .absY mmll => .ok (addrOf s.dt mmll + addrOfWord s.yi)
  | .abl hhmmll => .ok hhmmll
  | .ablX hhmmll => .ok (hhmmll + addrOfWord s.xi)
  | .sr nn =>
    if s.sp.toNat + nn.toNat ≤ 0xFFFF then .ok (addrOf 0 (s.sp + wordOfByte nn)) else .error .stackRelativeOverflow
  | .srIndY nn =>
    if s.sp.toNat + nn.toNat + 1 ≤ 0xFFFF then do
      let p ← s.readWord (addrOf 0 (s.sp + wordOfByte nn))
      pure (addrOf s.dt p + addrOfWord s.yi)
    else .error .stackRelativeOverflow

/-- The value of a source operand of width `w` (R85, R140). -/
def State.operand (s : State) (w : Width) : Operand → Res Word
  | .imm v => .ok (truncTo w v)
  | .mem o => do
    let a ← s.ea o
    s.readData w a

/-- The pointer of JMP (ABS,X) and JSR (ABS,X), in bank PG (R99). -/
def State.indexedTarget (s : State) (mmll : Word) : Res Word :=
  if mmll.toNat + s.xi.toNat + 1 ≤ 0xFFFF then s.readWord (addrOf s.pg (mmll + s.xi)) else .error .indexedIndirectOverflow

/-- The target of a relative branch from the instruction after the branch, 8-bit displacement (R101, R200). -/
def branchTarget (next : Addr) (rr : Byte) : Addr := next + rr.signExtend 24

/-- The target of BRA with a 16-bit displacement (R101, R209). -/
def branchTargetLong (next : Addr) (rr : Word) : Addr := next + rr.signExtend 24

/-- Whether a condition holds (R201 to R208). -/
def PS.holds (p : PS) : Cond → Bool
  | .cc => !p.c
  | .cs => p.c
  | .eq => p.z
  | .mi => p.n
  | .ne => !p.z
  | .pl => !p.n
  | .vc => !p.v
  | .vs => p.v

end Sys2Proof.Machine
end

