-- ==== Sys2Proof/Machine/Branch.lean ====
section
/-! DEFINITION. The branches, JMP, JSR, RTS, RTL (44_branch_jump.md). -/

namespace Sys2Proof.Machine

/-- A branch of `len` bytes: the target when taken, the next instruction when not (R200). -/
def State.branchIf (s : State) (taken : Bool) (len : Nat) (rr : Byte) : State :=
  s.goto (if taken then branchTarget (s.nextPC len) rr else s.nextPC len)

/-- BCC, BCS, BEQ, BMI, BNE, BPL, BVC, BVS (R201 to R208). -/
def opBranch (c : Cond) (rr : Byte) (s : State) : Result := complete (pure (s.branchIf (s.ps.holds c) 2 rr))

/-- A branch on memory bits: `test` of the datum and the mask (R210, R211). -/
def branchOnBits (test : Word → Word → Bool) (o : MemMode) (imm : Word) (rr : Byte) (s : State) : Result :=
  complete do
    let a ← s.ea o
    let v ← s.readData s.mw a
    pure (s.branchIf (test v (truncTo s.mw imm)) (1 + o.length + bytesOf s.mw + 1) rr)

/-- BBS (R210): every selected bit is 1. -/
def execBbs (o : MemMode) (imm : Word) (rr : Byte) (s : State) : Result :=
  branchOnBits (fun v mask => v &&& mask == mask) o imm rr s

/-- BBC (R211): every selected bit is 0. -/
def execBbc (o : MemMode) (imm : Word) (rr : Byte) (s : State) : Result :=
  branchOnBits (fun v mask => v &&& mask == 0) o imm rr s

/-- BRA, REL: code 80 with an 8-bit displacement, code 82 with a 16-bit displacement (R209). -/
def execBra (d : Displacement) (s : State) : Result :=
  match d with
  | .short rr => complete (pure (s.goto (branchTarget (s.nextPC 2) rr)))
  | .long rr => complete (pure (s.goto (branchTargetLong (s.nextPC 3) rr)))

/-- JMP (R212). ABS, (ABS) and (ABS,X) leave PG; the pointers of (ABS) and L(ABS) are in bank 00 (R97, R98), the pointer of
(ABS,X) is in bank PG (R99). -/
def execJmp (t : JumpMode) (s : State) : Result :=
  match t with
  | .abs mmll => complete (pure (s.setPc mmll))
  | .abl hhmmll => complete (pure (s.goto hhmmll))
  | .absInd mmll =>
    complete do
      let p ← s.readWord (addrOf 0 mmll)
      pure (s.setPc p)
  | .absIndL mmll =>
    complete do
      let p ← s.readLong (addrOf 0 mmll)
      pure (s.goto p)
  | .absXInd mmll =>
    complete do
      let p ← s.indexedTarget mmll
      pure (s.setPc p)

/-- JSR (R213). ABS and (ABS,X) push the low 16 bits of NextPC and leave PG; ABL pushes all of NextPC. The pointer of (ABS,X),
in bank PG, is read after the pushes (R99). -/
def execJsr (t : CallMode) (s : State) : Result :=
  match t with
  | .abs mmll =>
    complete do
      let u ← s.push16 (some 3) (offsetOf (s.nextPC 3))
      pure (u.setPc mmll)
  | .abl hhmmll =>
    complete do
      let u ← s.push8 (some 4) (bankOf (s.nextPC 4))
      let v ← u.push16 (some 4) (offsetOf (s.nextPC 4))
      pure (v.goto hhmmll)
  | .absXInd mmll =>
    complete do
      let u ← s.push16 (some 3) (offsetOf (s.nextPC 3))
      let p ← u.indexedTarget mmll
      pure (u.setPc p)

/-- RTS, IMP: code 60; PG unchanged (R214). -/
def execRts (s : State) : Result :=
  complete do
    let (v, t) ← s.pull16
    pure (t.setPc v)

/-- RTL, IMP: code 6B (R215). -/
def execRtl (s : State) : Result :=
  complete do
    let (v, t) ← s.pull16
    let u ← t.pullReg t.mw t.xw .pg
    pure (u.setPc v)

/-- BCC, branch when C is 0 (R201). -/
def execBcc (rr : Byte) (s : State) : Result := opBranch .cc rr s

/-- BCS, branch when C is 1 (R202). -/
def execBcs (rr : Byte) (s : State) : Result := opBranch .cs rr s

/-- BEQ, branch when Z is 1 (R203). -/
def execBeq (rr : Byte) (s : State) : Result := opBranch .eq rr s

/-- BMI, branch when N is 1 (R204). -/
def execBmi (rr : Byte) (s : State) : Result := opBranch .mi rr s

/-- BNE, branch when Z is 0 (R205). -/
def execBne (rr : Byte) (s : State) : Result := opBranch .ne rr s

/-- BPL, branch when N is 0 (R206). -/
def execBpl (rr : Byte) (s : State) : Result := opBranch .pl rr s

/-- BVC, branch when V is 0 (R207). -/
def execBvc (rr : Byte) (s : State) : Result := opBranch .vc rr s

/-- BVS, branch when V is 1 (R208). -/
def execBvs (rr : Byte) (s : State) : Result := opBranch .vs rr s

end Sys2Proof.Machine
end

