-- ==== Sys2Proof/Machine/Cycles.lean ====
section
/-! DEFINITION. The cycle counts of the instruction pages, a lower bound of the elapsed cycles of φ (70_reset_and_hazards.md
R372, R373). Non-normative: no rule of the functional model depends on them (R110). -/

namespace Sys2Proof.Machine

/-- Reading a datum in each memory mode: the A forms of the accumulator group (R140). DIR,Y is LDX's (R124). -/
def readCycles : MemMode → Nat
  | .dir _ | .abs _ => 4
  | .dirX _ | .dirY _ | .sr _ => 5
  | .dirInd _ | .absX _ | .absY _ | .abl _ => 6
  | .dirXInd _ | .ablX _ => 7
  | .dirIndY _ | .srIndY _ => 8
  | .dirIndL _ => 10
  | .dirIndLY _ => 11

/-- Storing a datum: STA A, STX, STY (R126 to R128). -/
def storeCycles : MemMode → Nat
  | .dir _ => 4
  | .dirX _ | .dirY _ | .abs _ | .absX _ | .absY _ | .sr _ => 5
  | .abl _ => 6
  | .dirInd _ | .dirXInd _ | .dirIndY _ | .ablX _ => 7
  | .srIndY _ => 8
  | .dirIndL _ => 10
  | .dirIndLY _ => 11

/-- LDM (R122). -/
def immediateStoreCycles : MemMode → Nat
  | .dir _ => 4
  | .absX _ => 6
  | _ => 5

/-- INC, DEC and the shifts (R152, R180). -/
def modifyCycles : Dest → Nat
  | .acc .a => 2
  | .acc .b => 4
  | .mem (.absX _) => 8
  | .mem _ => 7

/-- A source operand (R140): IMM is 2. -/
def operandCycles : Operand → Nat
  | .imm _ => 2
  | .mem o => readCycles o

/-- The B forms take 2 cycles more (R373). -/
def accCycles : Acc → Nat
  | .a => 0
  | .b => 2

/-- One cycle more where the address is longer: the bit instructions in mode ABS (R210, R299). -/
def absoluteCycle : MemMode → Nat
  | .abs _ => 1
  | _ => 0

/-- The count listed for each row of spec/opcode_table.json; for a row with a formula, its constant part (R110). -/
def baseCycles : Instr → Nat
  | .lda r o | .adc r o | .sbc r o | .cmp r o | .and r o | .ora r o | .eor r o => accCycles r + operandCycles o
  | .ldx o | .ldy o | .cpx o | .cpy o => operandCycles o
  | .mpy o => 14 + operandCycles o
  | .div o => 25 + operandCycles o
  | .sta r o => accCycles r + storeCycles o
  | .stx o | .sty o => storeCycles o
  | .ldm o _ => immediateStoreCycles o
  | .ldt _ => 5
  | .inc d | .dec d | .asl d | .lsr d | .rol d | .ror d => modifyCycles d
  | .rla _ => 6
  | .seb o _ | .clb o _ => 8 + absoluteCycle o
  | .bbs o _ _ | .bbc o _ _ => 7 + absoluteCycle o
  | .bcc _ | .bcs _ | .beq _ | .bmi _ | .bne _ | .bpl _ | .bvc _ | .bvs _ | .bra _ => 4
  | .jmp (.abs _) => 2
  | .jmp (.abl _) | .jmp (.absInd _) => 4
  | .jmp (.absXInd _) => 6
  | .jmp (.absIndL _) => 8
  | .jsr (.abs _) => 6
  | .jsr (.abl _) | .jsr (.absXInd _) => 8
  | .rts => 5
  | .rtl => 8
  | .pha | .phd | .php | .phx | .phy => 4
  | .phg | .pht => 3
  | .phb | .plp | .plt => 6
  | .pla | .pld | .plx | .ply | .pea _ | .pei _ | .per _ => 5
  | .plb => 7
  | .psh _ => 12
  | .pul _ => 14
  | .tbd | .tbs | .tbx | .tby | .tdb | .tsb | .txb | .tyb => 4
  | .xab => 6
  | .clp _ => 4
  | .sep _ => 3
  | .mvn _ _ => 7
  | .mvp _ _ => 9
  | .brk _ => 15
  | .rti => 11
  | .stp | .wit => 3
  | .tad | .tas | .tax | .tay | .tda | .tsa | .tsx | .txa | .txs | .txy | .tya | .tyx | .inx | .iny | .dex | .dey | .clc
  | .cli | .clm | .clv | .sec | .sei | .sem | .nop => 2

/-- The mode adds `dd` to DPR (R369). -/
def usesDirectPage : MemMode → Bool
  | .dir _ | .dirX _ | .dirY _ | .dirInd _ | .dirXInd _ | .dirIndY _ | .dirIndL _ | .dirIndLY _ => true
  | .abs _ | .absX _ | .absY _ | .abl _ | .ablX _ | .sr _ | .srIndY _ => false

/-- The memory mode of an instruction that has one; PEI reads DPR + dd (R251). -/
def memModeOf : Instr → Option MemMode
  | .lda _ (.mem o) | .adc _ (.mem o) | .sbc _ (.mem o) | .cmp _ (.mem o) | .and _ (.mem o) | .ora _ (.mem o)
  | .eor _ (.mem o) | .ldx (.mem o) | .ldy (.mem o) | .cpx (.mem o) | .cpy (.mem o) | .mpy (.mem o) | .div (.mem o)
  | .sta _ o | .stx o | .sty o | .ldm o _ | .seb o _ | .clb o _ | .bbs o _ _ | .bbc o _ _ | .inc (.mem o) | .dec (.mem o)
  | .asl (.mem o) | .lsr (.mem o) | .rol (.mem o) | .ror (.mem o) => some o
  | .pei dd => some (.dir dd)
  | _ => none

/-- One cycle for a direct page mode when the low byte of DPR is not 00 (R369, R373). -/
def directPageCycle (i : Instr) (s : State) : Nat :=
  match memModeOf i with
  | some o => if usesDirectPage o && lowByte s.dpr != 0 then 1 else 0
  | none => 0

/-- A test of memory bits succeeds. -/
def State.bitsTaken (s : State) (o : MemMode) (test : Word → Bool) : Bool :=
  match (do let a ← s.ea o; s.readData s.mw a) with
  | .ok v => test v
  | .error _ => false

/-- The instruction is a conditional branch, BBS or BBC, and is taken: 2 cycles more (R373). BRA takes the 4 cycles listed
(R209). -/
def branchTaken (i : Instr) (s : State) : Bool :=
  match i with
  | .bcc _ => s.ps.holds .cc
  | .bcs _ => s.ps.holds .cs
  | .beq _ => s.ps.holds .eq
  | .bmi _ => s.ps.holds .mi
  | .bne _ => s.ps.holds .ne
  | .bpl _ => s.ps.holds .pl
  | .bvc _ => s.ps.holds .vc
  | .bvs _ => s.ps.holds .vs
  | .bbs o imm _ => s.bitsTaken o fun v => v &&& truncTo s.mw imm == truncTo s.mw imm
  | .bbc o imm _ => s.bitsTaken o fun v => v &&& truncTo s.mw imm == 0
  | _ => false

/-- How many of the given bits of a mask are 1. -/
def countBits (nn : Byte) (bits : List Nat) : Nat := (bits.filter fun k => nn.getLsbD k).length

/-- The adders of R373 that depend on the operand or on m. -/
def addedCycles (i : Instr) (s : State) : Nat :=
  match i with
  | .mpy _ => if s.ps.m then 0 else 8
  | .div _ => if s.ps.m then 0 else 16
  | .rla imm => (truncTo s.mw imm).toNat
  | .psh nn => 2 * countBits nn [0, 1, 2, 3, 4, 7] + countBits nn [5, 6]
  | .pul nn => 3 * countBits nn [0, 1, 2, 3, 5, 7] + 4 * countBits nn [4]
  | .mvn _ _ => s.moveCount / 2 * 7 + s.moveCount % 2 * 4
  | .mvp _ _ => s.moveCount / 2 * 7 + s.moveCount % 2 * 5
  | _ => 0

/-- The least number of cycles of φ the instruction takes in the state before it (R373). -/
def minCycles (i : Instr) (s : State) : Nat :=
  baseCycles i + directPageCycle i s + (if branchTaken i s then 2 else 0) + addedCycles i s

end Sys2Proof.Machine
end

