-- ==== Sys2Proof/Machine/Boundary.lean ====
section
/-! DEFINITION. The instruction boundary: reset, interrupt acceptance and the instruction fetch (60_exceptions.md R335 to R339,
70_reset_and_hazards.md R361, 20_memory.md R58). -/

namespace Sys2Proof.Machine

/-- The requests raised at a boundary join the pending ones; a position `INT_SOURCES` does not have names no source, and a
request already pending stays one request (R338). -/
def addRequests (sources : Nat) (pending : List Nat) : List Nat → List Nat
  | [] => pending
  | k :: rest => addRequests sources (if k < sources ∧ k ∉ pending then pending ++ [k] else pending) rest

/-- A request of this source is acceptable: maskable only when I = 0 and its level exceeds IPL (R336). -/
def acceptable (src : IntSource) (p : PS) : Bool :=
  !src.maskable || (!p.i && decide (p.ipl.toNat < src.level.toNat))

/-- `a` goes before `b`: the higher level, and at one level the non-maskable one (R335). -/
def goesBefore (a b : IntSource) : Bool :=
  decide (b.level.toNat < a.level.toNat) || (a.level == b.level && !a.maskable && b.maskable)

/-- The position and record of the request accepted among the sources from position `k` on: the first that none goes before
(R335). -/
def chooseFrom (pending : List Nat) (p : PS) : Nat → List IntSource → Option (Nat × IntSource)
  | _, [] => none
  | k, src :: rest =>
    let later := chooseFrom pending p (k + 1) rest
    if k ∈ pending ∧ acceptable src p = true then
      match later with
      | none => some (k, src)
      | some (j, other) => if goesBefore other src then some (j, other) else some (k, src)
    else later

/-- The request accepted at this boundary, none where no pending request is acceptable (R335, R336). -/
def State.accepted (s : State) : Option (Nat × IntSource) := chooseFrom s.pending s.ps 0 s.cfg.intSources

/-- A hardware request is accepted: the entry sequence with the address of the next instruction; the request is cleared
(R337, R338). -/
def State.acceptRequest (s : State) (k : Nat) (src : IntSource) : Res State :=
  (s.setPending (s.pending.filter (· ≠ k))).enterInterrupt none s.pcAddr src.vector (some src.level)

/-- Memory that holds the given bytes, the first entry of an address in force, and nothing else. -/
def Memory.holding : List (Addr × Byte) → Memory
  | [] => Memory.empty
  | (a, v) :: rest => (Memory.holding rest).set a v

/-- Memory after reset: unchanged where `RESET_STATE` does not say otherwise (R360). -/
def State.resetMemory (s : State) : Memory :=
  match s.cfg.resetState.memory with
  | none => s.mem
  | some bytes => Memory.holding bytes

/-- Every row of `RESET_STATE` but PC (R360); nothing is saved (R361). -/
def State.withResetState (s : State) : State :=
  let r := s.cfg.resetState
  { s with a := r.a, b := r.b, x := r.x, y := r.y, sp := r.sp, dpr := r.dpr, pg := r.pg, dt := r.dt, ps := r.ps, run := r.run,
           pending := addRequests s.cfg.intSources.length [] r.pending, mem := s.resetMemory }

/-- The reset sequence: `RESET_STATE`, whose PC is by default what `RESET_VECTOR` holds then (R360, R361). DESIGN CHOICE (log
34): a vector outside bank 0 is read where it lies. -/
def State.resetSequence (s : State) : Res State :=
  match s.cfg.resetState.pc with
  | some t => .ok (s.withResetState.setPc t)
  | none => do
    let t ← s.withResetState.readWord s.cfg.resetVector
    pure (s.withResetState.setPc t)

/-- Up to `n` bytes from `a` on: those before the first that cannot be read, and why that one cannot (R58, R72). -/
def State.fetchFrom (s : State) : Nat → Addr → List Byte × Option Refusal
  | 0, _ => ([], none)
  | n + 1, a =>
    match s.readByte a with
    | .error e => ([], some e)
    | .ok v => (v :: (s.fetchFrom n (a + 1)).1, (s.fetchFrom n (a + 1)).2)

/-- What the fetch at PG:PC gives. -/
inductive Fetched where
  | instr (i : Instr)
  | fault (f : Fault)
  | refused (r : Refusal)
deriving DecidableEq, Repr

/-- The instruction at PG:PC, decoded under the flags m and x of PS (R58, R71, R72); an unassigned code is a fault (R79). -/
def State.fetch (s : State) : Fetched :=
  let bytes := s.fetchFrom maxLength s.pcAddr
  match decode s.ps.m s.ps.x bytes.1 with
  | .ok i _ => .instr i
  | .bad (.code1 c) => .fault (.undefinedCode c)
  | .bad (.code2 c) => .fault (.undefinedCodeB c)
  | .bad (.code3 c) => .fault (.undefinedCode89 c)
  | .bad .truncated => .refused (bytes.2.getD (.absentAddress s.pcAddr))

/-- What happens at an instruction boundary. -/
inductive Boundary where
  /-- Reset is applied: it wins over everything (R335, R361). -/
  | reset (s : State)
  /-- A request is accepted. -/
  | interrupt (s : State) (k : Nat) (src : IntSource)
  /-- The CPU is stopped or waiting and nothing wakes it (R345, R346). -/
  | asleep (s : State)
  /-- The next instruction is fetched. -/
  | instruction (s : State)
deriving DecidableEq, Repr

/-- The state with the nearest input consumed and its requests pending (R338). -/
def State.atBoundary (s : State) : State :=
  match s.inputs with
  | [] => s
  | now :: later =>
    { s with inputs := later, pending := addRequests s.cfg.intSources.length s.pending now.requests }

/-- Reset is applied at this boundary. -/
def State.resetNow (s : State) : Bool :=
  match s.inputs with
  | [] => false
  | now :: _ => now.reset

/-- The boundary: reset first, then an acceptable request, then the next instruction (R335, R339). -/
def State.boundary (s : State) : Boundary :=
  let t := s.atBoundary
  if s.resetNow then .reset t
  else
    match t.accepted with
    | some (k, src) => .interrupt t k src
    | none => if t.run = .running then .instruction t else .asleep t

/-- The cycles of an instruction are counted in its next state (R372). -/
def Result.counting (n : Nat) : Result → Result
  | .next t => .next { t with cycles := t.cycles + n }
  | .fault f => .fault f
  | .refused r => .refused r

/-- Store bytes at consecutive addresses, whatever `MEM_MAP` says: how the user of the model places a program (R360). -/
def Memory.place (m : Memory) (a : Addr) : List Byte → Memory
  | [] => m
  | v :: rest => Memory.place (m.set a v) (a + 1) rest

end Sys2Proof.Machine
end

