-- ==== Sys2Proof/Machine/Arith.lean ====
section
/-! DEFINITION. ADC, SBC, CMP, CPX, CPY, AND, ORA, EOR, INC, DEC, INX, INY, DEX, DEY (41_arith_logic.md). -/

namespace Sys2Proof.Machine

/-- ADC on an accumulator and a value (R141, R142). D = 1 draws one free value for N, V, Z, and, where a digit exceeds 9,
a second for the result with C taken from the first. -/
def State.adc (s : State) (r : Acc) (m : Word) : State :=
  let w := s.mw
  let a := truncTo w (s.acc r)
  if !s.ps.d then (s.setAcc r w (addResult w a m s.ps.c)).setPs (s.ps.afterAdd w a m)
  else if decimalValid w a m then
    ((s.setAcc r w (decimalAddResult w a m s.ps.c)).setPs
      { s.ps.freeNVZ s.drawn with c := decide (10 ^ digitsOf w ≤ decimalSum w a m s.ps.c) }).drew
  else ((s.drew.setAcc r w s.drew.drawn).setPs (s.ps.freeNVZC s.drawn)).drew

/-- SBC on an accumulator and a value (R143, R144). D = 1 draws one free value for N, V, and, where a digit exceeds 9, a second
for the result with Z and C taken from the first. -/
def State.sbc (s : State) (r : Acc) (m : Word) : State :=
  let w := s.mw
  let a := truncTo w (s.acc r)
  if !s.ps.d then (s.setAcc r w (subResult w a m s.ps.c)).setPs (s.ps.afterSub w a m)
  else if decimalValid w a m then
    let v := decimalSubResult w a m s.ps.c
    ((s.setAcc r w v).setPs
      { s.ps.freeNV s.drawn with z := truncTo w v == 0, c := decide (0 ≤ decimalDifference w a m s.ps.c) }).drew
  else ((s.drew.setAcc r w s.drew.drawn).setPs (s.ps.freeNVZC s.drawn)).drew

/-- ADC (R141, R142). -/
def execAdc (r : Acc) (o : Operand) (s : State) : Result :=
  complete do
    let m ← s.operand s.mw o
    pure ((s.adc r m).advance (r.codeBytes + o.length s.mw))

/-- SBC (R143, R144). -/
def execSbc (r : Acc) (o : Operand) (s : State) : Result :=
  complete do
    let m ← s.operand s.mw o
    pure ((s.sbc r m).advance (r.codeBytes + o.length s.mw))

/-- CMP (R145). -/
def execCmp (r : Acc) (o : Operand) (s : State) : Result :=
  complete do
    let m ← s.operand s.mw o
    pure ((s.setPs (s.ps.afterCompare s.mw (truncTo s.mw (s.acc r)) m)).advance (r.codeBytes + o.length s.mw))

/-- CPX (R146). -/
def execCpx (o : Operand) (s : State) : Result :=
  complete do
    let m ← s.operand s.xw o
    pure ((s.setPs (s.ps.afterCompare s.xw s.xi m)).advance (1 + o.length s.xw))

/-- CPY (R147). -/
def execCpy (o : Operand) (s : State) : Result :=
  complete do
    let m ← s.operand s.xw o
    pure ((s.setPs (s.ps.afterCompare s.xw s.yi m)).advance (1 + o.length s.xw))

/-- A logical operation on an accumulator (R148 to R150). -/
def logic (f : Word → Word → Word) (r : Acc) (o : Operand) (s : State) : Result :=
  complete do
    let m ← s.operand s.mw o
    let v := f (s.acc r) m
    pure (((s.setAcc r s.mw v).setNZ s.mw v).advance (r.codeBytes + o.length s.mw))

/-- AND (R148). -/
def execAnd (r : Acc) (o : Operand) (s : State) : Result := logic (fun a m => a &&& m) r o s

/-- ORA (R149). -/
def execOra (r : Acc) (o : Operand) (s : State) : Result := logic (fun a m => a ||| m) r o s

/-- EOR (R150). -/
def execEor (r : Acc) (o : Operand) (s : State) : Result := logic (fun a m => a ^^^ m) r o s

/-- A read-modify-write of `mw` bits: `f` gives the result, `p` PS, both from the operand (R46, R152, R180). -/
def readModifyWrite (f : Word → Word) (p : Word → PS) (d : Dest) (s : State) : Result :=
  complete do
    match d with
    | .acc r =>
      let v := truncTo s.mw (s.acc r)
      pure (((s.setAcc r s.mw (f v)).setPs (p v)).advance d.length)
    | .mem o =>
      let a ← s.ea o
      let v ← s.readData s.mw a
      let t ← s.storeData d.length s.mw a (f v)
      pure ((t.setPs (p v)).advance d.length)

/-- INC (R152). -/
def execInc (d : Dest) (s : State) : Result :=
  readModifyWrite (fun v => narrow s.mw (v.toNat + 1)) (fun v => s.ps.withNZ s.mw (narrow s.mw (v.toNat + 1))) d s

/-- DEC (R153). -/
def execDec (d : Dest) (s : State) : Result :=
  readModifyWrite (fun v => narrowInt s.mw ((v.toNat : Int) - 1))
    (fun v => s.ps.withNZ s.mw (narrowInt s.mw ((v.toNat : Int) - 1))) d s

/-- INX, IMP: code E8 (R154). -/
def execInx (s : State) : Result :=
  let r := narrow s.xw (s.xi.toNat + 1)
  complete (pure (((s.setX s.xw r).setNZ s.xw r).advance 1))

/-- INY, IMP: code C8 (R155). -/
def execIny (s : State) : Result :=
  let r := narrow s.xw (s.yi.toNat + 1)
  complete (pure (((s.setY s.xw r).setNZ s.xw r).advance 1))

/-- DEX, IMP: code CA (R156). -/
def execDex (s : State) : Result :=
  let r := narrowInt s.xw ((s.xi.toNat : Int) - 1)
  complete (pure (((s.setX s.xw r).setNZ s.xw r).advance 1))

/-- DEY, IMP: code 88 (R157). -/
def execDey (s : State) : Result :=
  let r := narrowInt s.xw ((s.yi.toNat : Int) - 1)
  complete (pure (((s.setY s.xw r).setNZ s.xw r).advance 1))

end Sys2Proof.Machine
end

