-- ==== Sys2Proof/Machine/FlagBit.lean ====
section
/-! DEFINITION. The flag and memory-bit instructions (47_flag_bit.md). -/

namespace Sys2Proof.Machine

/-- CLC, IMP: code 18 (R290). -/
def execClc (s : State) : Result := complete (pure ((s.setPs { s.ps with c := false }).advance 1))

/-- CLI, IMP: code 58 (R291). -/
def execCli (s : State) : Result := complete (pure ((s.setPs { s.ps with i := false }).advance 1))

/-- CLM, IMP: code D8 (R292). -/
def execClm (s : State) : Result := complete (pure ((s.setPs { s.ps with m := false }).advance 1))

/-- CLV, IMP: code B8 (R293). -/
def execClv (s : State) : Result := complete (pure ((s.setPs { s.ps with v := false }).advance 1))

/-- SEC, IMP: code 38 (R295). -/
def execSec (s : State) : Result := complete (pure ((s.setPs { s.ps with c := true }).advance 1))

/-- SEI, IMP: code 78 (R296). -/
def execSei (s : State) : Result := complete (pure ((s.setPs { s.ps with i := true }).advance 1))

/-- SEM, IMP: code F8 (R297). -/
def execSem (s : State) : Result := complete (pure ((s.setPs { s.ps with m := true }).advance 1))

/-- CLP, IMM: code C2; `PS[7:0] <- PS[7:0] & ~imm` (R294). -/
def execClp (imm : Byte) (s : State) : Result :=
  complete (pure ((s.setPs (s.ps.withLow (s.ps.low &&& ~~~imm))).advance 2))

/-- SEP, IMM: code E2; `PS[7:0] <- PS[7:0] | imm` (R298). -/
def execSep (imm : Byte) (s : State) : Result :=
  complete (pure ((s.setPs (s.ps.withLow (s.ps.low ||| imm))).advance 2))

/-- A read-modify-write of memory bits, no flag written (R299, R300). -/
def changeBits (f : Word → Word → Word) (o : MemMode) (imm : Word) (s : State) : Result :=
  complete do
    let len := 1 + o.length + bytesOf s.mw
    let a ← s.ea o
    let v ← s.readData s.mw a
    let t ← s.storeData len s.mw a (f v imm)
    pure (t.advance len)

/-- SEB (R299). -/
def execSeb (o : MemMode) (imm : Word) (s : State) : Result := changeBits (fun v mask => v ||| mask) o imm s

/-- CLB (R300). -/
def execClb (o : MemMode) (imm : Word) (s : State) : Result := changeBits (fun v mask => v &&& ~~~mask) o imm s

end Sys2Proof.Machine
end

