-- ==== Sys2Proof/Machine/LoadStore.lean ====
section
/-! DEFINITION. LDA, LDM, LDT, LDX, LDY, STA, STX, STY (40_load_store.md). -/

namespace Sys2Proof.Machine

/-- LDA (R121). -/
def execLda (r : Acc) (o : Operand) (s : State) : Result :=
  complete do
    let v ← s.operand s.mw o
    pure (((s.setAcc r s.mw v).setNZ s.mw v).advance (r.codeBytes + o.length s.mw))

/-- LDM (R122). -/
def execLdm (o : MemMode) (imm : Word) (s : State) : Result :=
  complete do
    let len := 1 + o.length + bytesOf s.mw
    let a ← s.ea o
    let t ← s.storeData len s.mw a imm
    pure (t.advance len)

/-- LDX (R124). -/
def execLdx (o : Operand) (s : State) : Result :=
  complete do
    let v ← s.operand s.xw o
    pure (((s.setX s.xw v).setNZ s.xw v).advance (1 + o.length s.xw))

/-- LDY (R125). -/
def execLdy (o : Operand) (s : State) : Result :=
  complete do
    let v ← s.operand s.xw o
    pure (((s.setY s.xw v).setNZ s.xw v).advance (1 + o.length s.xw))

/-- A store of the low `w` bits of `v` by an instruction of `len` bytes (R126 to R128). -/
def storeAt (len : Nat) (w : Width) (o : MemMode) (v : Word) (s : State) : Result :=
  complete do
    let a ← s.ea o
    let t ← s.storeData len w a v
    pure (t.advance len)

/-- STA (R126). -/
def execSta (r : Acc) (o : MemMode) (s : State) : Result := storeAt (r.codeBytes + o.length) s.mw o (s.acc r) s

/-- STX (R127). -/
def execStx (o : MemMode) (s : State) : Result := storeAt (1 + o.length) s.xw o s.x s

/-- STY (R128). -/
def execSty (o : MemMode) (s : State) : Result := storeAt (1 + o.length) s.xw o s.y s

/-- LDT, IMM: code 89 C2 (R123). -/
def execLdt (imm : Byte) (s : State) : Result := complete (pure ((s.setDt imm).advance 3))

end Sys2Proof.Machine
end

