-- ==== Sys2Proof/Machine/MulDiv.lean ====
section
/-! DEFINITION. MPY and DIV (43_muldiv.md). -/

namespace Sys2Proof.Machine

/-- MPY on a value: B, A <- A x M; one free value is drawn, for C (R191). -/
def State.multiply (s : State) (m : Word) : State :=
  let w := s.mw
  let a := truncTo w s.a
  let p := productOf a m
  (((s.setAcc .a w (narrow w p)).setAcc .b w (narrow w (p / 2 ^ bitsOf w))).setPs (s.ps.afterMultiply w a m s.drawn)).drew

/-- MPY (R191). -/
def execMpy (o : Operand) (s : State) : Result :=
  complete do
    let m ← s.operand s.mw o
    pure ((s.multiply m).advance (2 + o.length s.mw))

/-- DIV by a divisor that is not 0: A the quotient, B the remainder (R192). One free value is drawn for N, V, Z, C; where the
quotient does not fit in `w` bits two more are drawn, for A and for B. -/
def State.divide (s : State) (m : Word) : State :=
  let w := s.mw
  let n := dividendOf w (truncTo w s.b) (truncTo w s.a)
  let q := n / m.toNat
  let t := (s.setPs (s.ps.freeNVZC s.drawn)).drew
  if q < 2 ^ bitsOf w then (t.setAcc .a w (narrow w q)).setAcc .b w (narrow w (n % m.toNat))
  else ((t.setAcc .a w t.drawn).setAcc .b w t.drew.drawn).drew.drew

/-- DIV (R192): a divisor of 0 is refused. -/
def execDiv (o : Operand) (s : State) : Result :=
  complete do
    let m ← s.operand s.mw o
    if m = 0 then .error .divideByZero
    else pure ((s.divide m).advance (2 + o.length s.mw))

end Sys2Proof.Machine
end

