-- ==== Sys2Proof/Machine/Shift.lean ====
section
/-! DEFINITION. ASL, LSR, ROL, ROR, RLA (42_shift_rotate.md). -/

namespace Sys2Proof.Machine

/-- A one-bit shift of an accumulator or of memory (R180). -/
def shift (k : Shift) (d : Dest) (s : State) : Result :=
  readModifyWrite (fun v => k.result s.mw v s.ps.c) (fun v => s.ps.afterShift k s.mw v) d s

/-- ASL (R181). -/
def execAsl (d : Dest) (s : State) : Result := shift .asl d s

/-- LSR (R182). -/
def execLsr (d : Dest) (s : State) : Result := shift .lsr d s

/-- ROL (R183). -/
def execRol (d : Dest) (s : State) : Result := shift .rol d s

/-- ROR (R184). -/
def execRor (d : Dest) (s : State) : Result := shift .ror d s

/-- RLA, IMM: code 89 49 (R185). No flag changes. -/
def execRla (imm : Word) (s : State) : Result :=
  complete (pure ((s.setAcc .a s.mw (rotateLeft s.mw (truncTo s.mw s.a) (truncTo s.mw imm).toNat)).advance
    (2 + bytesOf s.mw)))

end Sys2Proof.Machine
end

