-- ==== Sys2Proof/Machine/Stack.lean ====
section
/-! DEFINITION. The stack instructions (45_stack.md). -/

namespace Sys2Proof.Machine

/-- Length of a single-register push or pull: B has the leading byte 42 (R232, R241). -/
def Reg.stackLength : Reg → Nat
  | .b => 2
  | _ => 1

/-- PHA, PHB, PHX, PHY, PHD, PHT, PHG, PHP (R231 to R239). -/
def opPush (r : Reg) (s : State) : Result :=
  complete do
    let t ← s.pushReg (some r.stackLength) r
    pure (t.advance r.stackLength)

/-- The flags of a single-register pull (R240 to R246): N, Z from A, B, X, Y over their width and from DT over 8 bits. -/
def State.pullFlags (s : State) (mw xw : Width) : Reg → State
  | .a => s.setNZ mw s.a
  | .b => s.setNZ mw s.b
  | .x => s.setNZ xw s.x
  | .y => s.setNZ xw s.y
  | .dt => s.setNZ .w8 (wordOfByte s.dt)
  | .dpr => s
  | .pg => s
  | .ps => s

/-- PLA, PLB, PLX, PLY, PLD, PLT, PLP (R240 to R246). -/
def opPull (r : Reg) (s : State) : Result :=
  complete do
    let t ← s.pullReg s.mw s.xw r
    pure ((t.pullFlags s.mw s.xw r).advance r.stackLength)

/-- PEA, STK: code F4; `imm` is the instruction's third byte and second byte, in this order (R250, R109). -/
def execPea (imm : Word) (s : State) : Result :=
  complete do
    let t ← s.push16 (some 3) imm
    pure (t.advance 3)

/-- PEI, STK: code D4 (R251). -/
def execPei (dd : Byte) (s : State) : Result :=
  complete do
    let v ← s.readWord (s.directAddr dd)
    let t ← s.push16 (some 2) v
    pure (t.advance 2)

/-- PER, STK: code 62 (R252). -/
def execPer (imm : Word) (s : State) : Result :=
  complete do
    let t ← s.push16 (some 3) (offsetOf (s.nextPC 3) + imm)
    pure (t.advance 3)

/-- The bits of PSH's mask in the order the registers are saved (R253). -/
def pshOrder : List (Nat × Reg) :=
  [(0, .a), (1, .b), (2, .x), (3, .y), (4, .dpr), (5, .dt), (6, .pg), (7, .ps)]

/-- The bits of PUL's mask in the order the registers are restored (R254). -/
def pulOrder : List (Nat × Reg) :=
  [(7, .ps), (5, .dt), (4, .dpr), (3, .y), (2, .x), (1, .b), (0, .a)]

/-- Push the selected registers in order (R253). -/
def State.pushSelected (s : State) (nn : Byte) : List (Nat × Reg) → Res State
  | [] => .ok s
  | (bit, r) :: rest =>
    if nn.getLsbD bit then do
      let t ← s.pushReg (some 2) r
      t.pushSelected nn rest
    else s.pushSelected nn rest

/-- Pull the selected registers in order, the widths fixed (R254). -/
def State.pullSelected (s : State) (mw xw : Width) (nn : Byte) : List (Nat × Reg) → Res State
  | [] => .ok s
  | (bit, r) :: rest =>
    if nn.getLsbD bit then do
      let t ← s.pullReg mw xw r
      t.pullSelected mw xw nn rest
    else s.pullSelected mw xw nn rest

/-- PSH, STK: code EB (R253). -/
def execPsh (nn : Byte) (s : State) : Result :=
  complete do
    let t ← s.pushSelected nn pshOrder
    pure (t.advance 2)

/-- BH after PUL: any value where m was 0, PS was restored and the restored m is 1 (R254). One free value is drawn. -/
def State.pulledB (t : State) (m0 : Bool) (nn : Byte) : State :=
  if !m0 && nn.getLsbD 7 && t.ps.m then
    (t.setAcc .b .w16 (wordOf (highByte t.drawn) (lowByte t.b))).drew
  else t

/-- PUL, STK: code FB (R254): bit 6 is refused. -/
def execPul (nn : Byte) (s : State) : Result :=
  complete do
    if nn.getLsbD 6 then .error .pulProgramBank
    else
      let t ← s.pullSelected s.mw s.xw nn pulOrder
      pure ((t.pulledB s.ps.m nn).advance 2)

/-- PHA (R231). -/
def execPha (s : State) : Result := opPush .a s

/-- PHB (R232). -/
def execPhb (s : State) : Result := opPush .b s

/-- PHD (R233). -/
def execPhd (s : State) : Result := opPush .dpr s

/-- PHG (R238). -/
def execPhg (s : State) : Result := opPush .pg s

/-- PHP (R234). -/
def execPhp (s : State) : Result := opPush .ps s

/-- PHT (R239). -/
def execPht (s : State) : Result := opPush .dt s

/-- PHX (R235). -/
def execPhx (s : State) : Result := opPush .x s

/-- PHY (R236). -/
def execPhy (s : State) : Result := opPush .y s

/-- PLA (R240). -/
def execPla (s : State) : Result := opPull .a s

/-- PLB (R241). -/
def execPlb (s : State) : Result := opPull .b s

/-- PLD (R242). -/
def execPld (s : State) : Result := opPull .dpr s

/-- PLP (R243). -/
def execPlp (s : State) : Result := opPull .ps s

/-- PLT (R244). -/
def execPlt (s : State) : Result := opPull .dt s

/-- PLX (R245). -/
def execPlx (s : State) : Result := opPull .x s

/-- PLY (R246). -/
def execPly (s : State) : Result := opPull .y s

end Sys2Proof.Machine
end

