-- ==== Sys2Proof/Machine/System.lean ====
section
/-! DEFINITION. BRK, RTI, STP, WIT (60_exceptions.md). -/

namespace Sys2Proof.Machine

/-- BRK, IMP: code 00; the second byte `nn` is ignored (R340). -/
def execBrk (_nn : Byte) (s : State) : Result :=
  complete (s.enterInterrupt (some 2) (s.nextPC 2) s.cfg.brkVector none)

/-- RTI, IMP: code 40 (R341). -/
def execRti (s : State) : Result := complete s.leaveInterrupt

/-- STP, IMP: code DB (R345). -/
def execStp (s : State) : Result := complete (pure ((s.advance 1).setRun .stopped))

/-- WIT, IMP: code CB (R346). -/
def execWit (s : State) : Result := complete (pure ((s.advance 1).setRun .waiting))

end Sys2Proof.Machine
end

