-- ==== Sys2Proof/Machine/Transfer.lean ====
section
/-! DEFINITION. The register transfer and exchange instructions (46_transfer.md). -/

namespace Sys2Proof.Machine

/-- TAD, TBD: 16 bits whatever m is (R260, R261). -/
def opTad (r : Acc) (s : State) : Result := complete (pure ((s.setDpr (s.acc r)).advance r.codeBytes))

/-- TAS, TBS: 16 bits whatever m is (R262, R263). -/
def opTas (r : Acc) (s : State) : Result := complete (pure ((s.setSp (s.acc r)).advance r.codeBytes))

/-- Transfer to X over `xw` bits with N, Z (R264, R266, R272, R279). -/
def State.toX (s : State) (v : Word) : State := (s.setX s.xw v).setNZ s.xw v

/-- Transfer to Y over `xw` bits with N, Z (R265, R267, R276). -/
def State.toY (s : State) (v : Word) : State := (s.setY s.xw v).setNZ s.xw v

/-- Transfer to an accumulator over `mw` bits with N, Z (R268 to R271, R273, R274, R277, R278). -/
def State.toAcc (s : State) (r : Acc) (v : Word) : State := (s.setAcc r s.mw v).setNZ s.mw v

/-- TAX, TBX (R264, R266). -/
def opTax (r : Acc) (s : State) : Result := complete (pure ((s.toX (s.acc r)).advance r.codeBytes))

/-- TAY, TBY (R265, R267). -/
def opTay (r : Acc) (s : State) : Result := complete (pure ((s.toY (s.acc r)).advance r.codeBytes))

/-- TDA, TDB (R268, R269). -/
def opTda (r : Acc) (s : State) : Result := complete (pure ((s.toAcc r s.dpr).advance r.codeBytes))

/-- TSA, TSB (R270, R271). -/
def opTsa (r : Acc) (s : State) : Result := complete (pure ((s.toAcc r s.sp).advance r.codeBytes))

/-- TXA, TXB: the high byte is 00 when m = 0 and x = 1 (R273, R274). -/
def opTxa (r : Acc) (s : State) : Result := complete (pure ((s.toAcc r s.xi).advance r.codeBytes))

/-- TYA, TYB: the high byte is 00 when m = 0 and x = 1 (R277, R278). -/
def opTya (r : Acc) (s : State) : Result := complete (pure ((s.toAcc r s.yi).advance r.codeBytes))

/-- TSX, IMP: code BA (R272). -/
def execTsx (s : State) : Result := complete (pure ((s.toX s.sp).advance 1))

/-- TXS, IMP: code 9A; SH becomes 00 when x = 1 (R275). -/
def execTxs (s : State) : Result := complete (pure ((s.setSp s.xi).advance 1))

/-- TXY, IMP: code 9B (R276). -/
def execTxy (s : State) : Result := complete (pure ((s.toY s.x).advance 1))

/-- TYX, IMP: code BB (R279). -/
def execTyx (s : State) : Result := complete (pure ((s.toX s.y).advance 1))

/-- XAB, IMP: code 89 28 (R280). -/
def execXab (s : State) : Result :=
  complete (pure ((((s.setAcc .a s.mw s.b).setAcc .b s.mw s.a).setNZ s.mw s.b).advance 2))

/-- TAD (R260). -/
def execTad (s : State) : Result := opTad .a s

/-- TBD (R261). -/
def execTbd (s : State) : Result := opTad .b s

/-- TAS (R262). -/
def execTas (s : State) : Result := opTas .a s

/-- TBS (R263). -/
def execTbs (s : State) : Result := opTas .b s

/-- TAX (R264). -/
def execTax (s : State) : Result := opTax .a s

/-- TAY (R265). -/
def execTay (s : State) : Result := opTay .a s

/-- TBX (R266). -/
def execTbx (s : State) : Result := opTax .b s

/-- TBY (R267). -/
def execTby (s : State) : Result := opTay .b s

/-- TDA (R268). -/
def execTda (s : State) : Result := opTda .a s

/-- TDB (R269). -/
def execTdb (s : State) : Result := opTda .b s

/-- TSA (R270). -/
def execTsa (s : State) : Result := opTsa .a s

/-- TSB (R271). -/
def execTsb (s : State) : Result := opTsa .b s

/-- TXA (R273). -/
def execTxa (s : State) : Result := opTxa .a s

/-- TXB (R274). -/
def execTxb (s : State) : Result := opTxa .b s

/-- TYA (R277). -/
def execTya (s : State) : Result := opTya .a s

/-- TYB (R278). -/
def execTyb (s : State) : Result := opTya .b s

end Sys2Proof.Machine
end

