-- ==== Sys2Proof/Machine/Dispatch.lean ====
section
/-! DEFINITION. exec: one arm per instruction, each a direct call of that instruction's meaning. -/

namespace Sys2Proof.Machine

def exec (i : Instr) (s : State) : Host.Outcome State Fault Refusal :=
  match i with
  | .lda r o => Sys2Proof.Machine.execLda r o s
  | .ldm o imm => Sys2Proof.Machine.execLdm o imm s
  | .ldt imm => Sys2Proof.Machine.execLdt imm s
  | .ldx o => Sys2Proof.Machine.execLdx o s
  | .ldy o => Sys2Proof.Machine.execLdy o s
  | .sta r o => Sys2Proof.Machine.execSta r o s
  | .stx o => Sys2Proof.Machine.execStx o s
  | .sty o => Sys2Proof.Machine.execSty o s
  | .adc r o => Sys2Proof.Machine.execAdc r o s
  | .sbc r o => Sys2Proof.Machine.execSbc r o s
  | .cmp r o => Sys2Proof.Machine.execCmp r o s
  | .cpx o => Sys2Proof.Machine.execCpx o s
  | .cpy o => Sys2Proof.Machine.execCpy o s
  | .and r o => Sys2Proof.Machine.execAnd r o s
  | .ora r o => Sys2Proof.Machine.execOra r o s
  | .eor r o => Sys2Proof.Machine.execEor r o s
  | .inc d => Sys2Proof.Machine.execInc d s
  | .dec d => Sys2Proof.Machine.execDec d s
  | .inx => Sys2Proof.Machine.execInx s
  | .iny => Sys2Proof.Machine.execIny s
  | .dex => Sys2Proof.Machine.execDex s
  | .dey => Sys2Proof.Machine.execDey s
  | .asl d => Sys2Proof.Machine.execAsl d s
  | .lsr d => Sys2Proof.Machine.execLsr d s
  | .rol d => Sys2Proof.Machine.execRol d s
  | .ror d => Sys2Proof.Machine.execRor d s
  | .rla imm => Sys2Proof.Machine.execRla imm s
  | .mpy o => Sys2Proof.Machine.execMpy o s
  | .div o => Sys2Proof.Machine.execDiv o s
  | .bcc rr => Sys2Proof.Machine.execBcc rr s
  | .bcs rr => Sys2Proof.Machine.execBcs rr s
  | .beq rr => Sys2Proof.Machine.execBeq rr s
  | .bmi rr => Sys2Proof.Machine.execBmi rr s
  | .bne rr => Sys2Proof.Machine.execBne rr s
  | .bpl rr => Sys2Proof.Machine.execBpl rr s
  | .bvc rr => Sys2Proof.Machine.execBvc rr s
  | .bvs rr => Sys2Proof.Machine.execBvs rr s
  | .bra d => Sys2Proof.Machine.execBra d s
  | .bbs o imm rr => Sys2Proof.Machine.execBbs o imm rr s
  | .bbc o imm rr => Sys2Proof.Machine.execBbc o imm rr s
  | .jmp t => Sys2Proof.Machine.execJmp t s
  | .jsr t => Sys2Proof.Machine.execJsr t s
  | .rts => Sys2Proof.Machine.execRts s
  | .rtl => Sys2Proof.Machine.execRtl s
  | .pha => Sys2Proof.Machine.execPha s
  | .phb => Sys2Proof.Machine.execPhb s
  | .phd => Sys2Proof.Machine.execPhd s
  | .phg => Sys2Proof.Machine.execPhg s
  | .php => Sys2Proof.Machine.execPhp s
  | .pht => Sys2Proof.Machine.execPht s
  | .phx => Sys2Proof.Machine.execPhx s
  | .phy => Sys2Proof.Machine.execPhy s
  | .pla => Sys2Proof.Machine.execPla s
  | .plb => Sys2Proof.Machine.execPlb s
  | .pld => Sys2Proof.Machine.execPld s
  | .plp => Sys2Proof.Machine.execPlp s
  | .plt => Sys2Proof.Machine.execPlt s
  | .plx => Sys2Proof.Machine.execPlx s
  | .ply => Sys2Proof.Machine.execPly s
  | .pea imm => Sys2Proof.Machine.execPea imm s
  | .pei dd => Sys2Proof.Machine.execPei dd s
  | .per imm => Sys2Proof.Machine.execPer imm s
  | .psh nn => Sys2Proof.Machine.execPsh nn s
  | .pul nn => Sys2Proof.Machine.execPul nn s
  | .tad => Sys2Proof.Machine.execTad s
  | .tbd => Sys2Proof.Machine.execTbd s
  | .tas => Sys2Proof.Machine.execTas s
  | .tbs => Sys2Proof.Machine.execTbs s
  | .tax => Sys2Proof.Machine.execTax s
  | .tay => Sys2Proof.Machine.execTay s
  | .tbx => Sys2Proof.Machine.execTbx s
  | .tby => Sys2Proof.Machine.execTby s
  | .tda => Sys2Proof.Machine.execTda s
  | .tdb => Sys2Proof.Machine.execTdb s
  | .tsa => Sys2Proof.Machine.execTsa s
  | .tsb => Sys2Proof.Machine.execTsb s
  | .tsx => Sys2Proof.Machine.execTsx s
  | .txa => Sys2Proof.Machine.execTxa s
  | .txb => Sys2Proof.Machine.execTxb s
  | .txs => Sys2Proof.Machine.execTxs s
  | .txy => Sys2Proof.Machine.execTxy s
  | .tya => Sys2Proof.Machine.execTya s
  | .tyb => Sys2Proof.Machine.execTyb s
  | .tyx => Sys2Proof.Machine.execTyx s
  | .xab => Sys2Proof.Machine.execXab s
  | .clc => Sys2Proof.Machine.execClc s
  | .cli => Sys2Proof.Machine.execCli s
  | .clm => Sys2Proof.Machine.execClm s
  | .clv => Sys2Proof.Machine.execClv s
  | .clp imm => Sys2Proof.Machine.execClp imm s
  | .sec => Sys2Proof.Machine.execSec s
  | .sei => Sys2Proof.Machine.execSei s
  | .sem => Sys2Proof.Machine.execSem s
  | .sep imm => Sys2Proof.Machine.execSep imm s
  | .seb o imm => Sys2Proof.Machine.execSeb o imm s
  | .clb o imm => Sys2Proof.Machine.execClb o imm s
  | .mvn n1 n2 => Sys2Proof.Machine.execMvn n1 n2 s
  | .mvp n1 n2 => Sys2Proof.Machine.execMvp n1 n2 s
  | .nop => Sys2Proof.Machine.execNop s
  | .brk nn => Sys2Proof.Machine.execBrk nn s
  | .rti => Sys2Proof.Machine.execRti s
  | .stp => Sys2Proof.Machine.execStp s
  | .wit => Sys2Proof.Machine.execWit s

end Sys2Proof.Machine
end

