-- ==== Sys2Proof/Machine/Step.lean ====
section
/-! DEFINITION. One step of the machine: what one instruction boundary leads to. -/

namespace Sys2Proof.Machine

/-- One step: reset, the acceptance of an interrupt request, a boundary asleep, or one instruction (R335, R339). -/
def step (s : State) : Host.Outcome State Fault Refusal :=
  match s.boundary with
  | .reset t => land t.resetSequence
  | .interrupt t k src => land (t.acceptRequest k src)
  | .asleep t => .next t
  | .instruction t =>
    match t.fetch with
    | .instr i => Result.counting (minCycles i t) (exec i t)
    | .fault f => .fault f
    | .refused r => .refused r

/-- `s` with the instruction whose bits are `w` (numbered as spec/opcode_table.json numbers them, every bit above `nbits` 0)
placed at PG:PC, and nothing in the way of the very next step running it: the CPU runs and the environment presents nothing. -/
def State.withFetchWord (s : State) (nbits w : Nat) : State :=
  { s with mem := s.mem.place s.pcAddr (tableBytes nbits w), run := .running, pending := [], inputs := [] }

end Sys2Proof.Machine
end

