-- ==== Sys2Proof/Machine/Length.lean ====
section
/-! DEFINITION. The length of an instruction in bytes (30_encoding.md R71). -/

namespace Sys2Proof

/-- Length in bytes under the widths the flags m and x select (R71): leading byte, code byte, operand bytes, one more for an
immediate whose flag is 0. -/
def Instr.length (mw xw : Width) : Instr → Nat
  | .lda r o | .adc r o | .sbc r o | .cmp r o | .and r o | .ora r o | .eor r o => r.codeBytes + o.length mw
  | .sta r o => r.codeBytes + o.length
  | .ldm o _ | .seb o _ | .clb o _ => 1 + o.length + Machine.bytesOf mw
  | .bbs o _ _ | .bbc o _ _ => 1 + o.length + Machine.bytesOf mw + 1
  | .ldx o | .ldy o | .cpx o | .cpy o => 1 + o.length xw
  | .stx o | .sty o => 1 + o.length
  | .inc d | .dec d | .asl d | .lsr d | .rol d | .ror d => d.length
  | .mpy o | .div o => 2 + o.length mw
  | .rla _ => 2 + Machine.bytesOf mw
  | .bra (.long _) => 3
  | .jmp (.abl _) | .jsr (.abl _) => 4
  | .jmp _ | .jsr _ | .pea _ | .per _ | .ldt _ | .mvn _ _ | .mvp _ _ => 3
  | .bcc _ | .bcs _ | .beq _ | .bmi _ | .bne _ | .bpl _ | .bvc _ | .bvs _ | .bra (.short _) => 2
  | .pei _ | .psh _ | .pul _ | .clp _ | .sep _ | .brk _ => 2
  | .phb | .plb | .tbd | .tbs | .tbx | .tby | .tdb | .tsb | .txb | .tyb | .xab => 2
  | .pha | .phd | .phg | .php | .pht | .phx | .phy | .pla | .pld | .plp | .plt | .plx | .ply | .tad | .tas | .tax | .tay
  | .tda | .tsa | .tsx | .txa | .txs | .txy | .tya | .tyx | .inx | .iny | .dex | .dey | .rts | .rtl | .clc | .cli | .clm
  | .clv | .sec | .sei | .sem | .nop | .rti | .stp | .wit => 1

end Sys2Proof
end

