-- ==== Sys2Proof/Safety.lean ====
section
/-! DEFINITION. What counts as a safe run, the invariant of the machine, and the terms in which claims speak of operands, results,
stores and of what an instruction leaves alone. -/

namespace Sys2Proof.Machine

/-! Safe runs and the invariant -/

/-- `n` steps without a fault and without a refusal. -/
def safeRun : Nat → State → Bool
  | 0, _ => true
  | n + 1, s =>
    match step s with
    | .next t => safeRun n t
    | .fault _ => false
    | .refused _ => false

/-- Every pending request is a position of `INT_SOURCES` (R338). -/
def pendingInRange (s : State) : Bool := s.pending.all fun k => decide (k < s.cfg.intSources.length)

/-- What every step keeps: memory in its canonical form; the pending requests are positions of `INT_SOURCES`, none twice (R338);
in single-chip mode PG and DT are 00, in the state and in `RESET_STATE` (R365). -/
def State.Inv (s : State) : Prop :=
  s.mem.wf = true ∧ s.pending.Nodup ∧ pendingInRange s = true ∧ banksLegal s.cfg s.pg s.dt = true ∧
    banksLegal s.cfg s.cfg.resetState.pg s.cfg.resetState.dt = true

/-! What an instruction may change -/

/-- The parts of the state. PS is taken flag by flag. -/
inductive Part where
  | acc (r : Acc)
  | x
  | y
  | sp
  | pc
  | pg
  | dt
  | dpr
  | flagN
  | flagV
  | flagM
  | flagX
  | flagD
  | flagI
  | flagZ
  | flagC
  | ipl
  | run
  | mem
  | pending
  | inputs
  | cfg
  | free
  | cycles
deriving DecidableEq, Repr

/-- A part is the same in both states; memory when every byte reads the same. -/
def Part.same (s t : State) : Part → Prop
  | .acc r => t.acc r = s.acc r
  | .x => t.x = s.x
  | .y => t.y = s.y
  | .sp => t.sp = s.sp
  | .pc => t.pc = s.pc
  | .pg => t.pg = s.pg
  | .dt => t.dt = s.dt
  | .dpr => t.dpr = s.dpr
  | .flagN => t.ps.n = s.ps.n
  | .flagV => t.ps.v = s.ps.v
  | .flagM => t.ps.m = s.ps.m
  | .flagX => t.ps.x = s.ps.x
  | .flagD => t.ps.d = s.ps.d
  | .flagI => t.ps.i = s.ps.i
  | .flagZ => t.ps.z = s.ps.z
  | .flagC => t.ps.c = s.ps.c
  | .ipl => t.ps.ipl = s.ps.ipl
  | .run => t.run = s.run
  | .mem => ∀ a : Addr, t.mem.get a = s.mem.get a
  | .pending => t.pending = s.pending
  | .inputs => t.inputs = s.inputs
  | .cfg => t.cfg = s.cfg
  | .free => t.free = s.free
  | .cycles => t.cycles = s.cycles

/-- Every part that is not listed is the same in both states. -/
def onlyChanges (parts : List Part) (s t : State) : Prop := ∀ p : Part, p ∉ parts → p.same s t

/-! Values -/

/-- `v[w-1:0]` as a number (R7). -/
def lowBits (w : Width) (v : Word) : Nat := v.toNat % 2 ^ bitsOf w

/-- A number below `2^w` read as two's complement (R7). -/
def signedOf (w : Width) (n : Nat) : Int := if n < 2 ^ (bitsOf w - 1) then n else (n : Int) - 2 ^ bitsOf w

/-- A signed value a `w`-bit register can hold (R25). -/
def signedFits (w : Width) (i : Int) : Prop := -2 ^ (bitsOf w - 1) ≤ i ∧ i < 2 ^ (bitsOf w - 1)

/-- A register of 16 bits receives the number `n` in its low `w` bits and keeps the rest (R11, R12). -/
def receives (w : Width) (old new : Word) (n : Nat) : Prop :=
  n < 2 ^ bitsOf w ∧ new.toNat = old.toNat / 2 ^ bitsOf w * 2 ^ bitsOf w + n

/-- N and Z as the `w`-bit result `n` gives them: N its top bit, Z whether it is 0 (R19, R26). -/
def flagsNZ (w : Width) (n : Nat) (p : PS) : Prop := p.n = decide (2 ^ (bitsOf w - 1) ≤ n) ∧ p.z = decide (n = 0)

/-! Memory an instruction reads and writes -/

/-- A byte can be read: `MEM_MAP` says RAM or ROM (R56). -/
def State.canReadByte (s : State) (a : Addr) : Bool := s.kindAt a == .ram || s.kindAt a == .rom

/-- The bytes `a`, `a + 1`, … (`n` of them) can be read. -/
def State.canRead (s : State) : Nat → Addr → Bool
  | 0, _ => true
  | n + 1, a => s.canReadByte a && s.canRead n (a + 1)

/-- `MemRead(a, n)` as a number, the byte at the lowest address least significant (R7, R42). -/
def State.number (s : State) : Nat → Addr → Nat
  | 0, _ => 0
  | n + 1, a => (s.mem.get a).toNat + 256 * s.number n (a + 1)

/-- An instruction of `len` bytes can store at `a`: `MEM_MAP` says RAM, and `a` is not one of its own bytes nor of the 3 after
them (R56, R58). -/
def State.canStoreByte (s : State) (len : Nat) (a : Addr) : Bool := s.kindAt a == .ram && !s.inPrefetch len a

/-- An instruction of `len` bytes can store a datum of width `w` at `a`. -/
def State.canStore (s : State) (len : Nat) (w : Width) (a : Addr) : Bool :=
  match w with
  | .w8 => s.canStoreByte len a
  | .w16 => s.canStoreByte len a && s.canStoreByte len (a + 1)

/-- From `s` to `t` the number `n`, `w` bits wide, is stored at `a`, low byte first, and every other byte of memory is as it was
(R42, R43). -/
def stores (w : Width) (a : Addr) (n : Nat) (s t : State) : Prop :=
  ∀ b : Addr, t.mem.get b =
    if b = a then BitVec.ofNat 8 n else if w = .w16 ∧ b = a + 1 then BitVec.ofNat 8 (n / 256) else s.mem.get b

/-! The stack -/

/-- An instruction of `len` bytes can push `n` bytes (R47, R56, R58). -/
def State.canPush (s : State) (len : Nat) : Nat → Word → Bool
  | 0, _ => true
  | n + 1, sp => s.canStoreByte len (addrOf 0 sp) && s.canPush len n (sp - 1)

/-- `n` bytes can be pulled from above `sp` (R47, R56). -/
def State.canPull (s : State) : Nat → Word → Bool
  | 0, _ => true
  | n + 1, sp => s.canReadByte (addrOf 0 (sp + 1)) && s.canPull n (sp + 1)

/-- The byte that lies `k` above S: `k = 1` is the next one pulled (R47). -/
def State.stackByte (s : State) (k : Nat) : Byte := s.mem.get (addrOf 0 (s.sp + BitVec.ofNat 16 k))

/-- Which byte pushing `bytes`, the first one first, from `sp` on leaves at `b`, if any (R47). -/
def pushedAt : List Byte → Word → Addr → Option Byte
  | [], _, _ => none
  | v :: rest, sp, b => if b = addrOf 0 sp then some v else pushedAt rest (sp - 1) b

/-- From `s` to `t` the bytes are pushed in this order: S is lowered by their count, they lie below the old S, and every other
byte of memory is as it was (R47). -/
def pushes (bytes : List Byte) (s t : State) : Prop :=
  t.sp = s.sp - BitVec.ofNat 16 bytes.length ∧ ∀ b : Addr, t.mem.get b = (pushedAt bytes s.sp b).getD (s.mem.get b)

/-- The bytes that pushing the low `w` bits of a register stores, upper byte first (R230). -/
def pushedBytes (w : Width) (v : Word) : List Byte :=
  match w with
  | .w8 => [lowByte v]
  | .w16 => [highByte v, lowByte v]

/-- The number of `w` bits that a pull takes from the bytes above S, lower byte first (R230). -/
def State.pulledNumber (s : State) (w : Width) : Nat :=
  match w with
  | .w8 => (s.stackByte 1).toNat
  | .w16 => (s.stackByte 1).toNat + 256 * (s.stackByte 2).toNat

/-- The number of `w` bits that lies `k` bytes above the next byte to be pulled (R42, R47). -/
def State.stackNumber (s : State) (w : Width) (k : Nat) : Nat :=
  match w with
  | .w8 => (s.stackByte (k + 1)).toNat
  | .w16 => (s.stackByte (k + 1)).toNat + 256 * (s.stackByte (k + 2)).toNat

/-- `n` bytes of RAM lie from `sp` downward (R47, R56). -/
def State.ramBelow (s : State) : Nat → Word → Bool
  | 0, _ => true
  | n + 1, sp => s.kindAt (addrOf 0 sp) == .ram && s.ramBelow n (sp - 1)

/-- The bytes PSH pushes for the mask `nn`, the first one first (R253). -/
def State.selectedBytes (s : State) (nn : Byte) : List Byte :=
  (if nn.getLsbD 0 then pushedBytes s.mw s.a else []) ++ (if nn.getLsbD 1 then pushedBytes s.mw s.b else []) ++
    (if nn.getLsbD 2 then pushedBytes s.xw s.x else []) ++ (if nn.getLsbD 3 then pushedBytes s.xw s.y else []) ++
    (if nn.getLsbD 4 then [highByte s.dpr, lowByte s.dpr] else []) ++ (if nn.getLsbD 5 then [s.dt] else []) ++
    (if nn.getLsbD 6 then [s.pg] else []) ++ (if nn.getLsbD 7 then [s.ps.high, s.ps.low] else [])

/-- Bytes PUL takes for one bit of its mask, under the widths in force when it is decoded (R254). -/
def pulSize (mw xw : Width) : Nat → Nat
  | 7 => 2
  | 5 => 1
  | 4 => 2
  | 3 => bytesOf xw
  | 2 => bytesOf xw
  | 1 => bytesOf mw
  | 0 => bytesOf mw
  | _ => 0

/-- Bytes PUL takes for the selected ones of the given bits. -/
def pulBytes (mw xw : Width) (nn : Byte) : List Nat → Nat
  | [] => 0
  | k :: rest => (if nn.getLsbD k then pulSize mw xw k else 0) + pulBytes mw xw nn rest

/-! Refused accesses -/

/-- Why the byte at `a` cannot be read, if it cannot (R56, U12). -/
def State.readRefusal (s : State) (a : Addr) : Option Refusal :=
  match s.kindAt a with
  | .ram | .rom => none
  | .device => some (.deviceAddress a)
  | .absent => some (.absentAddress a)

/-- Why an instruction of `len` bytes cannot store a byte at `a`, if it cannot (R56, R58, U12, U15). -/
def State.storeRefusal (s : State) (len : Nat) (a : Addr) : Option Refusal :=
  if s.inPrefetch len a then some (.storeIntoPrefetched a)
  else
    match s.kindAt a with
    | .ram => none
    | .rom => some (.romWrite a)
    | .device => some (.deviceAddress a)
    | .absent => some (.absentAddress a)

/-- The addresses of `n` bytes from `a` on, in the order they are accessed (R43, R45). -/
def bytesFrom : Nat → Addr → List Addr
  | 0, _ => []
  | n + 1, a => a :: bytesFrom n (a + 1)

/-- The addresses that `n` pushes store at, the first one first (R47). -/
def pushAddrs : Nat → Word → List Addr
  | 0, _ => []
  | n + 1, sp => addrOf 0 sp :: pushAddrs n (sp - 1)

/-- The addresses that `n` pulls read, the first one first (R47). -/
def pullAddrs : Nat → Word → List Addr
  | 0, _ => []
  | n + 1, sp => addrOf 0 (sp + 1) :: pullAddrs n (sp + 1)

/-- Reading `n` bytes from `a` on is refused, and the first byte that cannot be read says why. -/
def State.readRefused (s : State) (n : Nat) (a : Addr) (e : Refusal) : Prop :=
  (bytesFrom n a).findSome? s.readRefusal = some e

/-- Storing `n` bytes from `a` on by an instruction of `len` bytes is refused, and the first byte that cannot be stored says
why. -/
def State.storeRefused (s : State) (len n : Nat) (a : Addr) (e : Refusal) : Prop :=
  (bytesFrom n a).findSome? (s.storeRefusal len) = some e

/-- Pushing `n` bytes by an instruction of `len` bytes is refused. -/
def State.pushRefused (s : State) (len n : Nat) (e : Refusal) : Prop :=
  (pushAddrs n s.sp).findSome? (s.storeRefusal len) = some e

/-- Pulling `n` bytes is refused. -/
def State.pullRefused (s : State) (n : Nat) (e : Refusal) : Prop :=
  (pullAddrs n s.sp).findSome? s.readRefusal = some e

/-! Block transfers -/

/-- The index value before byte `k` of a block transfer, counted up or down modulo `2^w` (R310, R311, R313). -/
def blockIndex (w : Width) (up : Bool) (v : Word) (k : Nat) : Nat :=
  (lowBits w v + (if up then k else k * (2 ^ bitsOf w - 1))) % 2 ^ bitsOf w

/-! Going on -/

/-- The processor mode lets the machine go on at `a` with DT = `dt`: in single-chip mode both banks are 00 (R365). -/
def State.mayGoTo (s : State) (a : Addr) (dt : Byte) : Bool := banksLegal s.cfg (bankOf a) dt

/-- The length in bytes of an instruction decoded in this state (R71). -/
def State.lengthOf (s : State) (i : Instr) : Nat := i.length s.mw s.xw

/-- The processor mode lets the machine go on after the instruction `i`, which leaves DT alone (R22, R365). -/
def State.mayContinue (s : State) (i : Instr) : Bool := s.mayGoTo (s.nextPC (s.lengthOf i)) s.dt

/-- From `s` to `t` the machine moves past the instruction `i` (R22). -/
def passes (i : Instr) (s t : State) : Prop := t.pcAddr = s.nextPC (s.lengthOf i)

/-- The instructions that transfer control: branches, jumps, calls, returns, BRK and RTI (R14, R22). -/
def transfersControl : Instr → Bool
  | .bcc _ | .bcs _ | .beq _ | .bmi _ | .bne _ | .bpl _ | .bvc _ | .bvs _ | .bra _ | .bbs _ _ _ | .bbc _ _ _ | .jmp _
  | .jsr _ | .rts | .rtl | .brk _ | .rti => true
  | _ => false

/-- The instructions that load IPL from the stack: PLP, RTI, and PUL with bit 7 (R27). -/
def loadsIpl : Instr → Bool
  | .plp | .rti => true
  | .pul nn => nn.getLsbD 7
  | _ => false

/-! Families of instructions -/

/-- One instruction of a family, with its bytes, its listed cycle count and what the spec says of it. -/
structure Entry (α : Type) where
  instr : Instr
  bytes : List Byte
  cycles : Nat
  effect : α

/-- The entry's bytes encode its instruction and decode to it, whatever m and x are, and its cycle count is the listed one. -/
def Entry.encoded {α : Type} (e : Entry α) : Prop :=
  (∀ m x : Bool, encode m x e.instr = e.bytes ∧ decode m x e.bytes = .ok e.instr []) ∧ baseCycles e.instr = e.cycles

/-- A read-modify-write instruction: the result and the carry out (none: C is left alone) from the operand (R152, R180). -/
structure Modification where
  instr : Dest → Instr
  result : Nat → Nat
  carry : Nat → Option Bool

/-- INC, DEC, ASL, LSR, ROL, ROR on `w` bits with the old carry `c` (R152, R153, R181 to R184). -/
def modifications (w : Width) (c : Bool) : List Modification :=
  [⟨.inc, fun v => (v + 1) % 2 ^ bitsOf w, fun _ => none⟩,
   ⟨.dec, fun v => (v + 2 ^ bitsOf w - 1) % 2 ^ bitsOf w, fun _ => none⟩,
   ⟨.asl, fun v => 2 * v % 2 ^ bitsOf w, fun v => some (decide (2 ^ (bitsOf w - 1) ≤ v))⟩,
   ⟨.lsr, fun v => v / 2, fun v => some (decide (v % 2 = 1))⟩,
   ⟨.rol, fun v => 2 * v % 2 ^ bitsOf w + c.toNat, fun v => some (decide (2 ^ (bitsOf w - 1) ≤ v))⟩,
   ⟨.ror, fun v => v / 2 + 2 ^ (bitsOf w - 1) * c.toNat, fun v => some (decide (v % 2 = 1))⟩]

end Sys2Proof.Machine
end

