-- ==== Sys2Proof/Certificates/Slice0/Obligations.lean ====
section
/-! DEFINITION. The statements for the provers. Where a premise asks that the processor mode lets the machine go on
(`mayContinue`, `mayGoTo`), it holds of every state outside single-chip mode. -/

section Statements

open Sys2Proof Sys2Proof.Machine

/-! Encoding -/

/-- Byte sequences that the spec writes out decode to the instructions it says they are (S1, S2, S3, S6, the examples of R122,
R125, R209, R210, R213, R250, R310). -/
def Obligations.SpecWordsDecode : Prop :=
  decode false false [0x69, 0x34, 0x12] = .ok (.adc .a (.imm 0x1234)) [] ∧
  decode false false [0x42, 0x69, 0x34, 0x12] = .ok (.adc .b (.imm 0x1234)) [] ∧
  decode false false [0xA2, 0x7F, 0x02, 0x9A] = .ok (.ldx (.imm 0x027F)) [0x9A] ∧
  decode false true [0xA0, 0x00] = .ok (.ldy (.imm 0)) [] ∧
  decode true false [0x64, 0x10, 0xFF] = .ok (.ldm (.dir 0x10) 0xFF) [] ∧
  decode true false [0x24, 0x20, 0x81, 0x05] = .ok (.bbs (.dir 0x20) 0x81 0x05) [] ∧
  decode false false [0x82, 0x00, 0x10] = .ok (.bra (.long 0x1000)) [] ∧
  decode false false [0x22, 0x00, 0x30, 0x02] = .ok (.jsr (.abl 0x023000)) [] ∧
  decode false false [0xF4, 0x34, 0x12] = .ok (.pea 0x1234) [] ∧
  decode false false [0x54, 0x01, 0x00] = .ok (.mvn 0x01 0x00) [] ∧
  decode false false [0x89, 0x28] = .ok .xab [] ∧
  decode true false [0x89, 0x49, 0x01] = .ok (.rla 0x01) [] ∧
  decode false false [0x89, 0x13, 0x05] = .ok (.mpy (.mem (.srIndY 0x05))) []

/-- Decoding the encoding of any well-formed instruction gives it back and leaves the bytes after it. The width of an
immediate is the flag's at decode (spec's D26, log 29). -/
def Obligations.DecodeEncode : Prop :=
  ∀ (m x : Bool) (i : Instr) (rest : List Byte), i.wf m x = true → decode m x (encode m x i ++ rest) = .ok i rest

/-- Whatever bytes decode to an instruction begin with its encoding, and the instruction is well formed: no code has two
meanings and no byte is dropped. The width of an immediate is the flag's at decode (spec's D26, log 29). -/
def Obligations.EncodeDecode : Prop :=
  ∀ (m x : Bool) (bytes rest : List Byte) (i : Instr),
    decode m x bytes = .ok i rest → i.wf m x = true ∧ encode m x i ++ rest = bytes

/-- R70, R71: the encoding of a well-formed instruction has 1 to 6 bytes, as many as the length rule gives. -/
def Obligations.EncodedLength : Prop :=
  ∀ (m x : Bool) (i : Instr), i.wf m x = true →
    (encode m x i).length = i.length (widthOf m) (widthOf x) ∧
    1 ≤ (encode m x i).length ∧ (encode m x i).length ≤ 6

/-- R79: the first byte 02, 121 second bytes after 42 and 223 second bytes after 89 have no operation, and a step that fetches
one of them faults with the code. That such a fetch is a fault is the spec's own choice D11 (log 18). -/
def Obligations.UndefinedCodesFault : Prop :=
  ((List.range 256).filter fun c => decode false false [0x42, BitVec.ofNat 8 c, 0, 0, 0, 0] =
    .bad (.code2 (BitVec.ofNat 8 c))).length = 121 ∧
  ((List.range 256).filter fun c => decode false false [0x89, BitVec.ofNat 8 c, 0, 0, 0, 0] =
    .bad (.code3 (BitVec.ofNat 8 c))).length = 223 ∧
  ∀ s : State, s.inputs = [] → s.accepted = none → s.run = .running → s.canReadByte s.pcAddr = true →
    (s.mem.get s.pcAddr = 0x02 → step s = .fault (.undefinedCode 0x02)) ∧
    ∀ c : Byte, s.canReadByte (s.pcAddr + 1) = true → s.mem.get (s.pcAddr + 1) = c →
      (s.mem.get s.pcAddr = 0x42 → decode false false [0x42, c, 0, 0, 0, 0] = .bad (.code2 c) →
        step s = .fault (.undefinedCodeB c)) ∧
      (s.mem.get s.pcAddr = 0x89 → decode false false [0x89, c, 0, 0, 0, 0] = .bad (.code3 c) →
        step s = .fault (.undefinedCode89 c))

/-! Steps -/

/-- A step runs the decoded instruction: where nothing else happens at the boundary and the bytes fetched at PG:PC decode to
`i`, the step is `exec` of `i` with the instruction's least cycle count added. How the fetch reads and that cycles are counted
are the model's choices (logs 15, 27). -/
def Obligations.StepRunsDecoded : Prop :=
  ∀ (s : State) (i : Instr) (rest : List Byte),
    s.inputs = [] → s.accepted = none → s.run = .running →
    decode s.ps.m s.ps.x (s.fetchFrom maxLength s.pcAddr).1 = .ok i rest →
    step s = Result.counting (minCycles i s) (exec i s)

/-- A well-formed instruction whose bytes lie in readable memory at PG:PC is what the next step runs. How the fetch reads and
that cycles are counted are the model's choices (logs 15, 27). -/
def Obligations.StepRunsMemory : Prop :=
  ∀ (s : State) (i : Instr),
    s.inputs = [] → s.accepted = none → s.run = .running → i.wf s.ps.m s.ps.x = true →
    (∀ (k : Nat) (v : Byte), (encode s.ps.m s.ps.x i)[k]? = some v → s.readByte (s.pcAddr + BitVec.ofNat 24 k) = .ok v) →
    step s = Result.counting (minCycles i s) (exec i s)

/-- Every step keeps the invariant: memory canonical, pending requests in range and without repeats, PG and DT 00 in
single-chip mode. The form of memory and of the pending list, and the refusal in single-chip mode, are choices (logs 3, 26,
32). -/
def Obligations.StepKeepsInv : Prop := ∀ s t : State, s.Inv → step s = .next t → t.Inv

/-- The invariant holds right after reset. The reset state is that of log 2. -/
def Obligations.ResetInv : Prop := State.reset.Inv

/-- The values R360 gives the state after reset: PG = 00, DT = 00, DPR = 0000, I = 1, IPL = 0, m = x = D = 0, PC from the
reset vector, the CPU running, no request pending. They are the spec's own defaults (general knowledge, R360). See logs 2 and
4. -/
def Obligations.ResetValues : Prop :=
  State.reset.pg = 0 ∧ State.reset.dt = 0 ∧ State.reset.dpr = 0 ∧ State.reset.ps.i = true ∧ State.reset.ps.ipl = 0 ∧
    State.reset.ps.m = false ∧ State.reset.ps.x = false ∧ State.reset.ps.d = false ∧
    State.reset.pc.toNat = State.reset.number 2 State.reset.cfg.resetVector ∧ State.reset.run = .running ∧
    State.reset.pending = [] ∧ State.reset.cfg.resetVector = 0x00FFFE ∧ State.reset.cfg.brkVector = 0x00FFFA

/-- No step changes the parameters of R6; each step uses up one boundary of the environment; the counters never run backward.
The fields inputs, free and cycles are the model's own (logs 5, 7, 27). -/
def Obligations.StepKeepsConfig : Prop :=
  ∀ s t : State, step s = .next t →
    t.cfg = s.cfg ∧ t.inputs = s.inputs.tail ∧ s.free ≤ t.free ∧ s.cycles ≤ t.cycles

/-- R361, R360: reset applied at a boundary, in every run state and whatever is pending, gives every row of RESET_STATE: the
registers, PS, the run state, the pending requests (by default none), memory (by default unchanged), and PC, by default what
the reset vector then holds. The reset sequence is the spec's own choice D9 (log 2). That a vector outside bank 0 is read
where it lies is the model's choice (log 34). -/
def Obligations.ResetApplied : Prop :=
  ∀ s : State,
    let r := s.cfg.resetState
    s.resetNow = true → (r.pc = none → s.canRead 2 s.cfg.resetVector = true) →
    ∃ t : State, step s = .next t ∧
      t.a = r.a ∧ t.b = r.b ∧ t.x = r.x ∧ t.y = r.y ∧ t.sp = r.sp ∧ t.dpr = r.dpr ∧ t.pg = r.pg ∧ t.dt = r.dt ∧ t.ps = r.ps ∧
      t.run = r.run ∧ (∀ k, k ∈ t.pending ↔ k ∈ r.pending ∧ k < s.cfg.intSources.length) ∧ t.pending.Nodup ∧
      (r.memory = none → Part.same s t .mem) ∧
      (∀ bytes, r.memory = some bytes → ∀ a : Addr, t.mem.get a = (bytes.lookup a).getD unlistedByte) ∧
      (r.pc = none → t.pc.toNat = t.number 2 s.cfg.resetVector) ∧ (∀ p : Word, r.pc = some p → t.pc = p) ∧
      Part.same s t .cfg ∧ Part.same s t .free ∧ Part.same s t .cycles

/-! Interrupts -/

/-- R335, R336: which request is accepted. An accepted one is pending and acceptable (non-maskable, or I = 0 and its level
above IPL); no acceptable pending one has a higher level; at its level a maskable one yields to a non-maskable one, then the
earlier position goes first; none is accepted only where none is acceptable. (That the level is compared before maskability is
the model's reading of R335, log 9.) Masking is the spec's general knowledge D8 (log 8). -/
def Obligations.RequestChoice : Prop :=
  ∀ s : State,
    let ready : Nat → IntSource → Prop := fun j src =>
      s.cfg.intSources[j]? = some src ∧ j ∈ s.pending ∧
        (src.maskable = true → s.ps.i = false ∧ s.ps.ipl.toNat < src.level.toNat)
    (∀ (k : Nat) (src : IntSource), s.accepted = some (k, src) →
      ready k src ∧
      ∀ (j : Nat) (other : IntSource), ready j other →
        other.level.toNat ≤ src.level.toNat ∧
        (other.level = src.level →
          (src.maskable = true → other.maskable = true) ∧ (src.maskable = other.maskable → k ≤ j))) ∧
    (s.accepted = none → ∀ (j : Nat) (src : IntSource), ¬ ready j src)

/-- R337, R338, R339, R345, R346: an accepted hardware request, in the running, stopped or waiting CPU, pushes PG, PCH, PCL of
the instruction not yet executed, then PSH and PSL as they were; I becomes 1, IPL the level of the request; PC is loaded from
the vector, PG becomes 00; the request is cleared; nothing else changes. The entry of hardware requests is the spec's general
knowledge D8 (log 8). That the entry ends the states Stopped and Waiting and saves the address after the STP or WIT, that PSH
bits 7 to 3 are pushed as 0, that S wraps, and that the vector is read after the pushes are the spec's own choices D17, D10,
D4, D13 (logs 25, 10, 11, 33); that these pushes are not checked against the prefetched bytes is the model's choice (log 16).
That a vector outside bank 0 is read where it lies is the model's choice (log 34). -/
def Obligations.InterruptEntry : Prop :=
  ∀ (s : State) (k : Nat) (src : IntSource),
    s.resetNow = false → s.atBoundary.accepted = some (k, src) → s.mem.wf = true →
    s.ramBelow 5 s.sp = true → s.canRead 2 src.vector = true →
    ∃ t : State, step s = .next t ∧
      pushes [s.pg, highByte s.pc, lowByte s.pc, s.ps.high, s.ps.low] s t ∧
      t.ps = { s.ps with i := true, ipl := src.level } ∧ t.pc.toNat = t.number 2 src.vector ∧ t.pg = 0 ∧ t.run = .running ∧
      t.pending = s.atBoundary.pending.filter (fun j => decide (j ≠ k)) ∧
      onlyChanges [.mem, .sp, .flagI, .ipl, .pc, .pg, .run, .pending, .inputs] s t

/-- R345, R346: STP and WIT move past themselves and enter the states Stopped and Waiting, every register, flag and byte of
memory kept; a stopped or waiting CPU that is neither reset nor given an acceptable request executes nothing and keeps all
registers, flags and memory. That registers keep their values while stopped is the spec's inference (R345). That a masked
request does not wake it is the spec's own choice D17 (log 25). -/
def Obligations.PowerStates : Prop :=
  ∀ s : State,
    (∀ p ∈ [(⟨.stp, [0xDB], 3, .stopped⟩ : Entry RunState), ⟨.wit, [0xCB], 3, .waiting⟩],
      p.encoded ∧ (s.mayContinue p.instr = true →
        ∃ t, exec p.instr s = .next t ∧ t.run = p.effect ∧ passes p.instr s t ∧ onlyChanges [.pc, .pg, .run] s t)) ∧
    (s.run = .stopped ∨ s.run = .waiting → s.resetNow = false → s.atBoundary.accepted = none →
      ∃ t : State, step s = .next t ∧ onlyChanges [.pending, .inputs] s t)

/-! Addresses and operands -/

/-- R84, R86, R87, R93 to R96: the effective addresses of the direct, absolute and absolute long modes, plain and indexed, as
sums on 24 bits; an index register of 8 bits gives its low byte. The width of the index and the wrap are the spec's own
choices D19, D1 (logs 11, 30). -/
def Obligations.PlainAddresses : Prop :=
  ∀ (s : State) (dd : Byte) (mmll : Word) (hhmmll : Addr),
    let xi := lowBits s.xw s.x
    let yi := lowBits s.xw s.y
    (∀ a, s.ea (.dir dd) = .ok a ↔ a.toNat = s.dpr.toNat + dd.toNat) ∧
    (∀ a, s.ea (.dirX dd) = .ok a ↔ a.toNat = s.dpr.toNat + dd.toNat + xi) ∧
    (∀ a, s.ea (.dirY dd) = .ok a ↔ a.toNat = s.dpr.toNat + dd.toNat + yi) ∧
    (∀ a, s.ea (.abs mmll) = .ok a ↔ a.toNat = 65536 * s.dt.toNat + mmll.toNat) ∧
    (∀ a, s.ea (.absX mmll) = .ok a ↔ a.toNat = (65536 * s.dt.toNat + mmll.toNat + xi) % 2 ^ 24) ∧
    (∀ a, s.ea (.absY mmll) = .ok a ↔ a.toNat = (65536 * s.dt.toNat + mmll.toNat + yi) % 2 ^ 24) ∧
    (∀ a, s.ea (.abl hhmmll) = .ok a ↔ a = hhmmll) ∧
    (∀ a, s.ea (.ablX hhmmll) = .ok a ↔ a.toNat = (hhmmll.toNat + xi) % 2 ^ 24)

/-- R88 to R92: the indirect modes read a little-endian pointer of 2 or 3 bytes at the direct address (with X added before the
read in (DIR,X)); a 2-byte pointer takes the bank DT; Y is added to the 24-bit sum. Wraps, index width and pointer reads are
the spec's own choices D1, D2, D19, D20 (logs 11, 30). -/
def Obligations.IndirectAddresses : Prop :=
  ∀ (s : State) (dd : Byte) (p : Addr),
    let yi := lowBits s.xw s.y
    (p.toNat = s.dpr.toNat + dd.toNat + lowBits s.xw s.x → s.canRead 2 p = true →
      ∃ a, s.ea (.dirXInd dd) = .ok a ∧ a.toNat = 65536 * s.dt.toNat + s.number 2 p) ∧
    (p.toNat = s.dpr.toNat + dd.toNat → s.canRead 2 p = true →
      (∃ a, s.ea (.dirInd dd) = .ok a ∧ a.toNat = 65536 * s.dt.toNat + s.number 2 p) ∧
      (∃ a, s.ea (.dirIndY dd) = .ok a ∧ a.toNat = (65536 * s.dt.toNat + s.number 2 p + yi) % 2 ^ 24)) ∧
    (p.toNat = s.dpr.toNat + dd.toNat → s.canRead 3 p = true →
      (∃ a, s.ea (.dirIndL dd) = .ok a ∧ a.toNat = s.number 3 p) ∧
      (∃ a, s.ea (.dirIndLY dd) = .ok a ∧ a.toNat = (s.number 3 p + yi) % 2 ^ 24))

/-- R106, R107: the stack-relative modes. `S + nn` lies in bank 0; (SR),Y reads a 2-byte pointer there, takes the bank DT and
adds Y; where the sum (for the pointer, its second byte) exceeds FFFF the access is refused. The refusal is the spec's own
choice D3 (log 31), the index width D19 (log 30). -/
def Obligations.StackRelativeAddresses : Prop :=
  ∀ (s : State) (nn : Byte),
    (s.sp.toNat + nn.toNat ≤ 0xFFFF → ∃ a, s.ea (.sr nn) = .ok a ∧ a.toNat = s.sp.toNat + nn.toNat) ∧
    (0xFFFF < s.sp.toNat + nn.toNat → s.ea (.sr nn) = .error .stackRelativeOverflow) ∧
    (∀ p : Addr, p.toNat = s.sp.toNat + nn.toNat → s.sp.toNat + nn.toNat + 1 ≤ 0xFFFF → s.canRead 2 p = true →
      ∃ a, s.ea (.srIndY nn) = .ok a ∧
        a.toNat = (65536 * s.dt.toNat + s.number 2 p + lowBits s.xw s.y) % 2 ^ 24) ∧
    (0xFFFF < s.sp.toNat + nn.toNat + 1 → s.ea (.srIndY nn) = .error .stackRelativeOverflow)

/-- R43, R45, R85: an immediate operand is the immediate's low `w` bits; a memory operand is the little-endian number of `w/8`
bytes at the effective address, the address counted on 24 bits. That an address wraps modulo 2^24 is the spec's own choice D1,
D2 (log 11). -/
def Obligations.OperandValues : Prop :=
  ∀ (s : State) (w : Width) (imm : Word) (o : MemMode) (a : Addr),
    (∃ v, s.operand w (.imm imm) = .ok v ∧ v.toNat = lowBits w imm) ∧
    (s.ea o = .ok a → s.canRead (bytesOf w) a = true →
      ∃ v, s.operand w (.mem o) = .ok v ∧ v.toNat = s.number (bytesOf w) a)

/-- R56, R58, U12, U15: an instruction is refused, with the reason of the first byte it cannot access, where a byte of its
pointer, of its memory operand, of its store, of its pushes or of its pulls cannot be read or stored: each pointer mode, each
instruction that reads a datum (those that write it back included), each that stores one, the jumps through memory, every push
and pull, the vector of BRK, and the bytes of a block transfer, its source byte before its target byte. The refusals are the
spec's own choices D27, D12 (logs 16, 17). The addresses, too, rest on its choices: the banks of the pointers of JMP and JSR
D6 (log 14), the order of the accesses D13 (log 33), the wraps D1, D2, D4, D31 (log 11), index width and pointer reads D19,
D20 (log 30), the widths of PUL D23 (log 21), the byte loop of MVN and MVP D14 (log 22), and where the BRK vector lies D7 (log
4). The vector of BRK may lie outside bank 0, the model's choice (log 34). -/
def Obligations.AccessRefused : Prop :=
  ∀ (s : State) (r : Acc) (o : MemMode) (imm : Word) (dd nn : Byte) (p : Addr) (e : Refusal),
    (p.toNat = s.dpr.toNat + dd.toNat → s.readRefused 2 p e →
      s.ea (.dirInd dd) = .error e ∧ s.ea (.dirIndY dd) = .error e ∧ exec (.pei dd) s = .refused e) ∧
    (p.toNat = s.dpr.toNat + dd.toNat → s.readRefused 3 p e →
      s.ea (.dirIndL dd) = .error e ∧ s.ea (.dirIndLY dd) = .error e) ∧
    (p.toNat = s.dpr.toNat + dd.toNat + lowBits s.xw s.x → s.readRefused 2 p e → s.ea (.dirXInd dd) = .error e) ∧
    (p.toNat = s.sp.toNat + nn.toNat → s.sp.toNat + nn.toNat + 1 ≤ 0xFFFF → s.readRefused 2 p e →
      s.ea (.srIndY nn) = .error e) ∧
    (∀ w : Width, s.ea o = .error e ∨ s.ea o = .ok p ∧ s.readRefused (bytesOf w) p e → s.operand w (.mem o) = .error e) ∧
    (s.operand s.mw (.mem o) = .error e →
      ∀ i ∈ [Instr.lda r (.mem o), .adc r (.mem o), .sbc r (.mem o), .cmp r (.mem o), .and r (.mem o), .ora r (.mem o),
        .eor r (.mem o), .mpy (.mem o), .div (.mem o), .inc (.mem o), .dec (.mem o), .asl (.mem o), .lsr (.mem o),
        .rol (.mem o), .ror (.mem o), .seb o imm, .clb o imm, .bbs o imm nn, .bbc o imm nn], exec i s = .refused e) ∧
    (s.operand s.xw (.mem o) = .error e →
      ∀ i ∈ [Instr.ldx (.mem o), .ldy (.mem o), .cpx (.mem o), .cpy (.mem o)], exec i s = .refused e) ∧
    (∀ i ∈ [(Instr.sta r o, s.mw), (.ldm o imm, s.mw), (.stx o, s.xw), (.sty o, s.xw)],
      s.ea o = .error e ∨ s.ea o = .ok p ∧ s.storeRefused (s.lengthOf i.1) (bytesOf i.2) p e → exec i.1 s = .refused e) ∧
    (s.ea o = .ok p → s.canRead (bytesOf s.mw) p = true →
      ∀ i ∈ [Instr.inc (.mem o), .dec (.mem o), .asl (.mem o), .lsr (.mem o), .rol (.mem o), .ror (.mem o), .seb o imm,
        .clb o imm], s.storeRefused (s.lengthOf i) (bytesOf s.mw) p e → exec i s = .refused e) ∧
    (p.toNat = imm.toNat → (s.readRefused 2 p e → exec (.jmp (.absInd imm)) s = .refused e) ∧
      (s.readRefused 3 p e → exec (.jmp (.absIndL imm)) s = .refused e)) ∧
    (p.toNat = 65536 * s.pg.toNat + imm.toNat + lowBits s.xw s.x → imm.toNat + lowBits s.xw s.x + 1 ≤ 0xFFFF →
      s.readRefused 2 p e → exec (.jmp (.absXInd imm)) s = .refused e ∧
        (s.canPush 3 2 s.sp = true → exec (.jsr (.absXInd imm)) s = .refused e)) ∧
    (∀ i ∈ [(Instr.pha, bytesOf s.mw), (.phb, bytesOf s.mw), (.phd, 2), (.phg, 1), (.php, 2), (.pht, 1), (.phx, bytesOf s.xw),
        (.phy, bytesOf s.xw), (.psh nn, (s.selectedBytes nn).length), (.pea imm, 2), (.per imm, 2), (.jsr (.abs imm), 2),
        (.jsr (.absXInd imm), 2), (.jsr (.abl p), 3), (.brk nn, 5)],
      s.pushRefused (s.lengthOf i.1) i.2 e → exec i.1 s = .refused e) ∧
    (p.toNat = s.dpr.toNat + dd.toNat → s.canRead 2 p = true → s.pushRefused 2 2 e → exec (.pei dd) s = .refused e) ∧
    (s.canPush 2 5 s.sp = true → s.readRefused 2 s.cfg.brkVector e → exec (.brk nn) s = .refused e) ∧
    (∀ i ∈ [(Instr.pla, bytesOf s.mw), (.plb, bytesOf s.mw), (.pld, 2), (.plp, 2), (.plt, 1), (.plx, bytesOf s.xw),
        (.ply, bytesOf s.xw), (.rts, 2), (.rtl, 3), (.rti, 5)],
      s.pullRefused i.2 e → exec i.1 s = .refused e) ∧
    (nn.getLsbD 6 = false → s.pullRefused (pulBytes s.mw s.xw nn [7, 5, 4, 3, 2, 1, 0]) e → exec (.pul nn) s = .refused e) ∧
    ∀ i ∈ [(Instr.mvn dd nn, true), (.mvp dd nn, false)],
      ((List.range (lowBits s.mw s.a)).findSome? fun k =>
        (s.readRefusal (addrOf nn (BitVec.ofNat 16 (blockIndex s.xw i.2 s.x k)))).or
          (s.storeRefusal 3 (addrOf dd (BitVec.ofNat 16 (blockIndex s.xw i.2 s.y k))))) = some e →
      (s.cfg.mode = .singleChip → dd = 0) → exec i.1 s = .refused e

/-- R58, U15: an instruction that stores into one of its own bytes or into the 3 bytes after its last byte is refused; the
first byte beyond is not. Stated for STA with its 8-bit datum in RAM, at every distance from its own first byte. The refusal
is the spec's own choice D12 (log 16). -/
def Obligations.PrefetchedStoreRefused : Prop :=
  ∀ (s : State) (r : Acc) (o : MemMode) (a : Addr),
    s.ps.m = true → s.ea o = .ok a → s.kindAt a = .ram → s.mayContinue (.sta r o) = true →
    ((a - s.pcAddr).toNat < s.lengthOf (.sta r o) + 3 → exec (.sta r o) s = .refused (.storeIntoPrefetched a)) ∧
    (s.lengthOf (.sta r o) + 3 ≤ (a - s.pcAddr).toNat → ∃ t, exec (.sta r o) s = .next t)

/-! Loads and stores -/

/-- R121, R123 to R125: LDA, LDX, LDY put the operand into the register over the operand's width, keep its other bits, set N
and Z from it, and change nothing else; LDT loads DT and writes no flag. Where LDT may not go on in single-chip mode is the
spec's own choice D32 (log 26). -/
def Obligations.Loads : Prop :=
  ∀ (s : State) (o : Operand) (v : Word) (imm : Byte),
    (s.operand s.mw o = .ok v → ∀ r : Acc, s.mayContinue (.lda r o) = true →
      ∃ t, exec (.lda r o) s = .next t ∧ receives s.mw (s.acc r) (t.acc r) v.toNat ∧ flagsNZ s.mw v.toNat t.ps ∧
        passes (.lda r o) s t ∧ onlyChanges [.acc r, .flagN, .flagZ, .pc, .pg] s t) ∧
    (s.operand s.xw o = .ok v → s.mayContinue (.ldx o) = true →
      ∃ t, exec (.ldx o) s = .next t ∧ receives s.xw s.x t.x v.toNat ∧ flagsNZ s.xw v.toNat t.ps ∧
        passes (.ldx o) s t ∧ onlyChanges [.x, .flagN, .flagZ, .pc, .pg] s t) ∧
    (s.operand s.xw o = .ok v → s.mayContinue (.ldy o) = true →
      ∃ t, exec (.ldy o) s = .next t ∧ receives s.xw s.y t.y v.toNat ∧ flagsNZ s.xw v.toNat t.ps ∧
        passes (.ldy o) s t ∧ onlyChanges [.y, .flagN, .flagZ, .pc, .pg] s t) ∧
    (⟨.ldt imm, [0x89, 0xC2, imm], 5, ()⟩ : Entry Unit).encoded ∧
    (s.mayGoTo (s.nextPC 3) imm = true →
      ∃ t, exec (.ldt imm) s = .next t ∧ t.dt = imm ∧ passes (.ldt imm) s t ∧ onlyChanges [.dt, .pc, .pg] s t)

/-- R122, R126 to R128: LDM, STA, STX, STY store the immediate or the register, over the width of m (LDM, STA) or x (STX,
STY), at the effective address, low byte first; every other byte of memory, every register and every flag keeps its value. -/
def Obligations.Stores : Prop :=
  ∀ (s : State) (r : Acc) (o : MemMode) (imm : Word) (a : Addr), s.ea o = .ok a → s.mem.wf = true →
    ∀ p ∈ [(Instr.ldm o imm, s.mw, imm), (.sta r o, s.mw, s.acc r), (.stx o, s.xw, s.x), (.sty o, s.xw, s.y)],
      s.canStore (s.lengthOf p.1) p.2.1 a = true → s.mayContinue p.1 = true →
      ∃ t, exec p.1 s = .next t ∧ stores p.2.1 a p.2.2.toNat s t ∧ passes p.1 s t ∧ onlyChanges [.mem, .pc, .pg] s t

/-! Arithmetic and logic -/

/-- R141, R25: ADC with D = 0. The sum of accumulator, operand and C, narrowed to the width, goes to the accumulator; C is its
carry; V says that the signed sum does not fit; N and Z as the result says. -/
def Obligations.AdcBinary : Prop :=
  ∀ (s : State) (r : Acc) (o : Operand) (v : Word),
    s.operand s.mw o = .ok v → s.ps.d = false → s.mayContinue (.adc r o) = true →
    ∃ t, exec (.adc r o) s = .next t ∧
      let sum := lowBits s.mw (s.acc r) + v.toNat + s.ps.c.toNat
      receives s.mw (s.acc r) (t.acc r) (sum % 2 ^ bitsOf s.mw) ∧ flagsNZ s.mw (sum % 2 ^ bitsOf s.mw) t.ps ∧
      t.ps.c = decide (2 ^ bitsOf s.mw ≤ sum) ∧
      (t.ps.v = true ↔ ¬ signedFits s.mw
        (signedOf s.mw (lowBits s.mw (s.acc r)) + signedOf s.mw v.toNat + s.ps.c.toNat)) ∧
      passes (.adc r o) s t ∧ onlyChanges [.acc r, .flagN, .flagV, .flagZ, .flagC, .pc, .pg] s t

/-- R142, U3, U4: ADC with D = 1. On packed decimal operands the result is the packed decimal of the sum, narrowed to the
digits, and C its carry; with a digit above 9 only the frame is fixed. N, V, Z (and there the result and C) are free values.
Packed decimal is the spec's general knowledge, the open digits its choice D15 (log 19). -/
def Obligations.AdcDecimal : Prop :=
  ∀ (s : State) (r : Acc) (o : Operand) (v : Word),
    s.operand s.mw o = .ok v → s.ps.d = true → s.mayContinue (.adc r o) = true →
    ∃ t n, exec (.adc r o) s = .next t ∧ receives s.mw (s.acc r) (t.acc r) n ∧
      (let k := digitsOf s.mw
       let a := lowBits s.mw (s.acc r)
       bcdValid k a = true → bcdValid k v.toNat = true →
        bcdValid k n = true ∧ bcdValue k n = (bcdValue k a + bcdValue k v.toNat + s.ps.c.toNat) % 10 ^ k ∧
        t.ps.c = decide (10 ^ k ≤ bcdValue k a + bcdValue k v.toNat + s.ps.c.toNat)) ∧
      passes (.adc r o) s t ∧ onlyChanges [.acc r, .flagN, .flagV, .flagZ, .flagC, .pc, .pg, .free] s t

/-- R143, R25: SBC with D = 0. Accumulator minus operand minus the complement of C; C says that the difference is not
negative, V that the signed difference does not fit. -/
def Obligations.SbcBinary : Prop :=
  ∀ (s : State) (r : Acc) (o : Operand) (v : Word),
    s.operand s.mw o = .ok v → s.ps.d = false → s.mayContinue (.sbc r o) = true →
    ∃ t n, exec (.sbc r o) s = .next t ∧
      let difference : Int := (lowBits s.mw (s.acc r) : Int) - v.toNat - (1 - (s.ps.c.toNat : Int))
      receives s.mw (s.acc r) (t.acc r) n ∧ (n : Int) = difference % 2 ^ bitsOf s.mw ∧ flagsNZ s.mw n t.ps ∧
      t.ps.c = decide (0 ≤ difference) ∧
      (t.ps.v = true ↔ ¬ signedFits s.mw
        (signedOf s.mw (lowBits s.mw (s.acc r)) - signedOf s.mw v.toNat - (1 - (s.ps.c.toNat : Int)))) ∧
      passes (.sbc r o) s t ∧ onlyChanges [.acc r, .flagN, .flagV, .flagZ, .flagC, .pc, .pg] s t

/-- R144, U3, U4: SBC with D = 1. On packed decimal operands the result is the packed decimal of the difference modulo the
digits, C says that the difference is not negative, Z that the result is 0; with a digit above 9 only the frame is fixed. N, V
(and there the result, Z and C) are free values. Packed decimal is the spec's general knowledge, the open digits its choice
D15 (log 19). -/
def Obligations.SbcDecimal : Prop :=
  ∀ (s : State) (r : Acc) (o : Operand) (v : Word),
    s.operand s.mw o = .ok v → s.ps.d = true → s.mayContinue (.sbc r o) = true →
    ∃ t n, exec (.sbc r o) s = .next t ∧ receives s.mw (s.acc r) (t.acc r) n ∧
      (let k := digitsOf s.mw
       let a := lowBits s.mw (s.acc r)
       let difference : Int := (bcdValue k a : Int) - bcdValue k v.toNat - (1 - (s.ps.c.toNat : Int))
       bcdValid k a = true → bcdValid k v.toNat = true →
        bcdValid k n = true ∧ (bcdValue k n : Int) = (if 0 ≤ difference then difference else difference + 10 ^ k) ∧
        t.ps.c = decide (0 ≤ difference) ∧ t.ps.z = decide (n = 0)) ∧
      passes (.sbc r o) s t ∧ onlyChanges [.acc r, .flagN, .flagV, .flagZ, .flagC, .pc, .pg, .free] s t

/-- R145 to R147: CMP, CPX, CPY subtract the operand from the register, whatever C and D are, and write N, Z and C (1 when the
register is not below the operand) and nothing else. The meanings of N, Z and C are the spec's inference from the SBC page
(R145). -/
def Obligations.Compares : Prop :=
  ∀ (s : State) (r : Acc) (o : Operand) (v : Word),
    ∀ p ∈ [(Instr.cmp r o, s.mw, s.acc r), (.cpx o, s.xw, s.x), (.cpy o, s.xw, s.y)],
      s.operand p.2.1 o = .ok v → s.mayContinue p.1 = true →
      ∃ t, exec p.1 s = .next t ∧
        flagsNZ p.2.1 ((lowBits p.2.1 p.2.2 + 2 ^ bitsOf p.2.1 - v.toNat) % 2 ^ bitsOf p.2.1) t.ps ∧
        t.ps.c = decide (v.toNat ≤ lowBits p.2.1 p.2.2) ∧ passes p.1 s t ∧
        onlyChanges [.flagN, .flagZ, .flagC, .pc, .pg] s t

/-- R148 to R150: AND, ORA, EOR combine accumulator and operand bit by bit over the width, and set N and Z from the result. -/
def Obligations.Logic : Prop :=
  ∀ (s : State) (r : Acc) (o : Operand) (v : Word), s.operand s.mw o = .ok v →
    let a := lowBits s.mw (s.acc r)
    ∀ p ∈ [(Instr.and r o, a &&& v.toNat), (.ora r o, a ||| v.toNat), (.eor r o, a ^^^ v.toNat)],
      s.mayContinue p.1 = true →
      ∃ t, exec p.1 s = .next t ∧ receives s.mw (s.acc r) (t.acc r) p.2 ∧ flagsNZ s.mw p.2 t.ps ∧ passes p.1 s t ∧
        onlyChanges [.acc r, .flagN, .flagZ, .pc, .pg] s t

/-- R152, R153, R181 to R184: INC, DEC, ASL, LSR, ROL, ROR on an accumulator: the result over the width, N and Z from it, C
the bit shifted out (INC, DEC leave C), nothing else. -/
def Obligations.ModifyAccumulator : Prop :=
  ∀ (s : State) (r : Acc), ∀ p ∈ modifications s.mw s.ps.c, s.mayContinue (p.instr (.acc r)) = true →
    ∃ t, exec (p.instr (.acc r)) s = .next t ∧
      let v := lowBits s.mw (s.acc r)
      receives s.mw (s.acc r) (t.acc r) (p.result v) ∧ flagsNZ s.mw (p.result v) t.ps ∧
      t.ps.c = (p.carry v).getD s.ps.c ∧ passes (p.instr (.acc r)) s t ∧
      onlyChanges [.acc r, .flagN, .flagZ, .flagC, .pc, .pg] s t

/-- R46, R152, R153, R180 to R184: the same six on memory: one read and one write of the datum at the effective address; every
other byte of memory and every register keeps its value. -/
def Obligations.ModifyMemory : Prop :=
  ∀ (s : State) (o : MemMode) (a : Addr), s.ea o = .ok a → s.mem.wf = true →
    ∀ p ∈ modifications s.mw s.ps.c,
      s.canStore (s.lengthOf (p.instr (.mem o))) s.mw a = true → s.mayContinue (p.instr (.mem o)) = true →
      ∃ t, exec (p.instr (.mem o)) s = .next t ∧
        let v := s.number (bytesOf s.mw) a
        stores s.mw a (p.result v) s t ∧ flagsNZ s.mw (p.result v) t.ps ∧ t.ps.c = (p.carry v).getD s.ps.c ∧
        passes (p.instr (.mem o)) s t ∧ onlyChanges [.mem, .flagN, .flagZ, .flagC, .pc, .pg] s t

/-- R154 to R157: INX, INY, DEX, DEY: code, cycles, the index register counted up or down over the width of x with its other
bits kept, N and Z from the result, nothing else. -/
def Obligations.CountIndex : Prop :=
  ∀ s : State,
    let w := s.xw
    (∀ p ∈ [(⟨.inx, [0xE8], 2, (lowBits w s.x + 1) % 2 ^ bitsOf w⟩ : Entry Nat),
        ⟨.dex, [0xCA], 2, (lowBits w s.x + 2 ^ bitsOf w - 1) % 2 ^ bitsOf w⟩],
      p.encoded ∧ (s.mayContinue p.instr = true →
        ∃ t, exec p.instr s = .next t ∧ receives w s.x t.x p.effect ∧ flagsNZ w p.effect t.ps ∧ passes p.instr s t ∧
          onlyChanges [.x, .flagN, .flagZ, .pc, .pg] s t)) ∧
    (∀ p ∈ [(⟨.iny, [0xC8], 2, (lowBits w s.y + 1) % 2 ^ bitsOf w⟩ : Entry Nat),
        ⟨.dey, [0x88], 2, (lowBits w s.y + 2 ^ bitsOf w - 1) % 2 ^ bitsOf w⟩],
      p.encoded ∧ (s.mayContinue p.instr = true →
        ∃ t, exec p.instr s = .next t ∧ receives w s.y t.y p.effect ∧ flagsNZ w p.effect t.ps ∧ passes p.instr s t ∧
          onlyChanges [.y, .flagN, .flagZ, .pc, .pg] s t))

/-- R185: RLA moves bit `j` of the `w` rotated bits of A to bit `j + n` modulo `w`, for every count `n` the immediate holds;
the other bits of A, B, every flag and everything else keep their value. That a count of w or more acts modulo w is the spec's
inference in R185. -/
def Obligations.RotateLeft : Prop :=
  ∀ (s : State) (imm : Word), s.mayContinue (.rla imm) = true →
    ∃ t, exec (.rla imm) s = .next t ∧
      (∀ j < bitsOf s.mw, t.a.getLsbD ((j + lowBits s.mw imm) % bitsOf s.mw) = s.a.getLsbD j) ∧
      (∀ j, bitsOf s.mw ≤ j → t.a.getLsbD j = s.a.getLsbD j) ∧
      passes (.rla imm) s t ∧ onlyChanges [.acc .a, .pc, .pg] s t

/-- R191: MPY multiplies A and the operand, unsigned, into the pair B, A over twice the width; N is the top bit of the
product, Z says that all of it is 0; C is a free value; V and the rest keep their value. Unsigned operands and the open C are
the spec's own choices D28, D29 (log 20). -/
def Obligations.Multiply : Prop :=
  ∀ (s : State) (o : Operand) (v : Word), s.operand s.mw o = .ok v → s.mayContinue (.mpy o) = true →
    ∃ t, exec (.mpy o) s = .next t ∧
      let product := lowBits s.mw s.a * v.toNat
      receives s.mw s.a t.a (product % 2 ^ bitsOf s.mw) ∧ receives s.mw s.b t.b (product / 2 ^ bitsOf s.mw) ∧
      t.ps.n = decide (2 ^ (2 * bitsOf s.mw - 1) ≤ product) ∧ t.ps.z = decide (product = 0) ∧
      passes (.mpy o) s t ∧ onlyChanges [.acc .a, .acc .b, .flagN, .flagZ, .flagC, .pc, .pg, .free] s t

/-- R192: DIV. Where the quotient of B : A by the operand fits the width, A is the quotient and B the remainder; where it does
not, A and B hold free values of the width. N, V, Z, C are free values; everything else keeps its value. A divisor of 0 is
refused (D16). Unsigned operands and the open values are the spec's own choices D28, D16 (log 20). -/
def Obligations.Divide : Prop :=
  ∀ (s : State) (o : Operand) (v : Word), s.operand s.mw o = .ok v →
    (v = 0 → exec (.div o) s = .refused .divideByZero) ∧
    (v ≠ 0 → s.mayContinue (.div o) = true →
      ∃ t q r, exec (.div o) s = .next t ∧ receives s.mw s.a t.a q ∧ receives s.mw s.b t.b r ∧
        (let dividend := lowBits s.mw s.b * 2 ^ bitsOf s.mw + lowBits s.mw s.a
         dividend / v.toNat < 2 ^ bitsOf s.mw → q * v.toNat + r = dividend ∧ r < v.toNat) ∧
        passes (.div o) s t ∧
        onlyChanges [.acc .a, .acc .b, .flagN, .flagV, .flagZ, .flagC, .pc, .pg, .free] s t)

/-! Branches, jumps, calls -/

/-- R200 to R209: the relative branches: code, cycles (2 more when a conditional branch is taken), and PG:PC: the address
after the branch plus the signed displacement on 24 bits when the tested flag has the value the mnemonic names (BRA: always),
else the address after the branch; nothing else changes. The base of the displacement is the spec's general knowledge D5 (log
12), and that a taken BRA stays at the 4 cycles listed is the model's reading of R373 (log 27). -/
def Obligations.RelativeBranches : Prop :=
  ∀ (s : State) (rr : Byte) (rrrr : Word),
    (∀ p ∈ [(⟨.bcc rr, [0x90, rr], 4, !s.ps.c⟩ : Entry Bool), ⟨.bcs rr, [0xB0, rr], 4, s.ps.c⟩,
        ⟨.beq rr, [0xF0, rr], 4, s.ps.z⟩, ⟨.bmi rr, [0x30, rr], 4, s.ps.n⟩, ⟨.bne rr, [0xD0, rr], 4, !s.ps.z⟩,
        ⟨.bpl rr, [0x10, rr], 4, !s.ps.n⟩, ⟨.bvc rr, [0x50, rr], 4, !s.ps.v⟩, ⟨.bvs rr, [0x70, rr], 4, s.ps.v⟩],
      p.encoded ∧ minCycles p.instr s = 4 + (if p.effect then 2 else 0) ∧
      ∀ target : Addr,
        (target.toNat : Int) = ((s.nextPC 2).toNat + (if p.effect then rr.toInt else 0)) % 2 ^ 24 →
        s.mayGoTo target s.dt = true →
        ∃ t, exec p.instr s = .next t ∧ t.pcAddr = target ∧ onlyChanges [.pc, .pg] s t) ∧
    ∀ p ∈ [(⟨.bra (.short rr), [0x80, rr], 4, (s.nextPC 2).toNat + rr.toInt⟩ : Entry Int),
        ⟨.bra (.long rrrr), [0x82, lowByte rrrr, highByte rrrr], 4, (s.nextPC 3).toNat + rrrr.toInt⟩],
      p.encoded ∧ minCycles p.instr s = 4 ∧
      ∀ target : Addr, (target.toNat : Int) = p.effect % 2 ^ 24 → s.mayGoTo target s.dt = true →
        ∃ t, exec p.instr s = .next t ∧ t.pcAddr = target ∧ onlyChanges [.pc, .pg] s t

/-- R210, R211: BBS is taken when every bit that the mask selects is 1 in the datum, BBC when every one is 0 (an empty mask:
both taken); target as for the other branches; memory is only read, nothing but PG:PC changes. The base of the displacement is
the spec's general knowledge D5 (log 12). -/
def Obligations.BitBranches : Prop :=
  ∀ (s : State) (o : MemMode) (imm : Word) (rr : Byte) (a : Addr),
    s.ea o = .ok a → s.canRead (bytesOf s.mw) a = true →
    let bitIs : Bool → Prop := fun b =>
      ∀ j < bitsOf s.mw, imm.getLsbD j = true → (s.number (bytesOf s.mw) a).testBit j = b
    ∀ p ∈ [(Instr.bbs o imm rr, true), (.bbc o imm rr, false)],
      ∀ target : Addr,
        (bitIs p.2 → (target.toNat : Int) = ((s.nextPC (s.lengthOf p.1)).toNat + rr.toInt) % 2 ^ 24) →
        (¬ bitIs p.2 → target = s.nextPC (s.lengthOf p.1)) → s.mayGoTo target s.dt = true →
        ∃ t, exec p.1 s = .next t ∧ t.pcAddr = target ∧ onlyChanges [.pc, .pg] s t

/-- R97 to R99, R212: the five forms of JMP. ABS, (ABS) and (ABS,X) leave PG; the pointer of (ABS) and of L(ABS) lies in bank
00, the pointer of (ABS,X) in bank PG at `mmll + Xi`, refused where its second byte passes FFFF. The pointers' banks and the
refusal are the spec's own choices D6, D30 (logs 14, 31). -/
def Obligations.Jumps : Prop :=
  ∀ (s : State) (mmll : Word) (hhmmll p : Addr),
    (s.mayGoTo (addrOf s.pg mmll) s.dt = true →
      ∃ t, exec (.jmp (.abs mmll)) s = .next t ∧ t.pc = mmll ∧ onlyChanges [.pc] s t) ∧
    (s.mayGoTo hhmmll s.dt = true →
      ∃ t, exec (.jmp (.abl hhmmll)) s = .next t ∧ t.pcAddr = hhmmll ∧ onlyChanges [.pc, .pg] s t) ∧
    (p.toNat = mmll.toNat → s.canRead 2 p = true → s.mayGoTo s.pcAddr s.dt = true →
      ∃ t, exec (.jmp (.absInd mmll)) s = .next t ∧ t.pc.toNat = s.number 2 p ∧ onlyChanges [.pc] s t) ∧
    (p.toNat = mmll.toNat → s.canRead 3 p = true → s.mayGoTo (BitVec.ofNat 24 (s.number 3 p)) s.dt = true →
      ∃ t, exec (.jmp (.absIndL mmll)) s = .next t ∧ t.pcAddr.toNat = s.number 3 p ∧ onlyChanges [.pc, .pg] s t) ∧
    (let sum := mmll.toNat + lowBits s.xw s.x
     (p.toNat = 65536 * s.pg.toNat + sum → sum + 1 ≤ 0xFFFF → s.canRead 2 p = true → s.mayGoTo s.pcAddr s.dt = true →
      ∃ t, exec (.jmp (.absXInd mmll)) s = .next t ∧ t.pc.toNat = s.number 2 p ∧ onlyChanges [.pc] s t) ∧
     (0xFFFF < sum + 1 → exec (.jmp (.absXInd mmll)) s = .refused .indexedIndirectOverflow))

/-- R213: the three forms of JSR. ABS and (ABS,X) push the low 16 bits of the address after the call, high byte first, and
leave PG; ABL pushes all 24 bits, bank first, and loads PG:PC; (ABS,X) reads its pointer, in bank PG, after the pushes. The
return address, the pointer's bank and the refusal are the spec's own choices D25, D6, D30 (logs 14, 24, 31). -/
def Obligations.Calls : Prop :=
  ∀ (s : State) (mmll : Word) (hhmmll : Addr), s.mem.wf = true →
    let ret := s.nextPC 3
    let ret4 := s.nextPC 4
    (s.canPush 3 2 s.sp = true → s.mayGoTo s.pcAddr s.dt = true →
      ∃ t, exec (.jsr (.abs mmll)) s = .next t ∧ pushes [highByte (offsetOf ret), lowByte (offsetOf ret)] s t ∧
        t.pc = mmll ∧ onlyChanges [.mem, .sp, .pc] s t) ∧
    (s.canPush 4 3 s.sp = true → s.mayGoTo hhmmll s.dt = true →
      ∃ t, exec (.jsr (.abl hhmmll)) s = .next t ∧
        pushes [bankOf ret4, highByte (offsetOf ret4), lowByte (offsetOf ret4)] s t ∧
        t.pcAddr = hhmmll ∧ onlyChanges [.mem, .sp, .pc, .pg] s t) ∧
    (∀ p : Addr, s.canPush 3 2 s.sp = true → s.mayGoTo s.pcAddr s.dt = true →
      p.toNat = 65536 * s.pg.toNat + mmll.toNat + lowBits s.xw s.x → mmll.toNat + lowBits s.xw s.x + 1 ≤ 0xFFFF →
      s.canRead 2 p = true →
      ∃ t, exec (.jsr (.absXInd mmll)) s = .next t ∧ pushes [highByte (offsetOf ret), lowByte (offsetOf ret)] s t ∧
        t.pc.toNat = t.number 2 p ∧ onlyChanges [.mem, .sp, .pc] s t) ∧
    (s.canPush 3 2 s.sp = true → 0xFFFF < mmll.toNat + lowBits s.xw s.x + 1 →
      exec (.jsr (.absXInd mmll)) s = .refused .indexedIndirectOverflow)

/-- R214, R215: RTS pulls PC, RTL pulls PC and then PG, low byte first; S rises by 2 or 3; PG stays in RTS; nothing else
changes. That S wraps modulo 2^16 is the spec's own choice D4 (log 11). -/
def Obligations.SubroutineReturns : Prop :=
  ∀ s : State,
    (⟨.rts, [0x60], 5, ()⟩ : Entry Unit).encoded ∧ (⟨.rtl, [0x6B], 8, ()⟩ : Entry Unit).encoded ∧
    (s.canPull 2 s.sp = true → s.mayGoTo s.pcAddr s.dt = true →
      ∃ t, exec .rts s = .next t ∧ t.pc.toNat = s.stackNumber .w16 0 ∧ t.sp = s.sp + 2 ∧ onlyChanges [.pc, .sp] s t) ∧
    (s.canPull 3 s.sp = true → banksLegal s.cfg (s.stackByte 3) s.dt = true →
      ∃ t, exec .rtl s = .next t ∧ t.pc.toNat = s.stackNumber .w16 0 ∧ t.pg = s.stackByte 3 ∧ t.sp = s.sp + 3 ∧
        onlyChanges [.pc, .pg, .sp] s t)

/-- R213 to R215: a call and the return that pairs with it come back to the instruction after the call with S, every register
and every flag as they were: JSR ABL with RTL always, JSR ABS with RTS when that instruction lies in the bank of the call. The
return address is the spec's own choice D25 (log 24). -/
def Obligations.CallThenReturn : Prop :=
  ∀ (s : State) (mmll : Word) (hhmmll : Addr), s.mem.wf = true →
    (s.canPush 4 3 s.sp = true → s.mayGoTo hhmmll s.dt = true → s.mayGoTo (s.nextPC 4) s.dt = true →
      ∃ t u, exec (.jsr (.abl hhmmll)) s = .next t ∧ exec .rtl t = .next u ∧ u.pcAddr = s.nextPC 4 ∧
        onlyChanges [.mem, .pc, .pg] s u) ∧
    (s.canPush 3 2 s.sp = true → s.mayGoTo s.pcAddr s.dt = true → bankOf (s.nextPC 3) = s.pg →
      ∃ t u, exec (.jsr (.abs mmll)) s = .next t ∧ exec .rts t = .next u ∧ u.pcAddr = s.nextPC 3 ∧
        onlyChanges [.mem, .pc] s u)

/-! The stack -/

/-- R231 to R239: the single-register pushes: code, cycles, the bytes pushed (A, B by m; X, Y by x; DPR and PS two bytes,
upper first; PG, DT one), and no register but S, no flag and no other byte of memory changed. That S wraps and that PSH bits 7
to 3 are 0 are the spec's own choices D4, D10 (logs 10, 11). -/
def Obligations.SinglePushes : Prop :=
  ∀ s : State, s.mem.wf = true →
    ∀ p ∈ [(⟨.pha, [0x48], 4, pushedBytes s.mw s.a⟩ : Entry (List Byte)), ⟨.phb, [0x42, 0x48], 6, pushedBytes s.mw s.b⟩,
        ⟨.phd, [0x0B], 4, [highByte s.dpr, lowByte s.dpr]⟩, ⟨.phg, [0x4B], 3, [s.pg]⟩,
        ⟨.php, [0x08], 4, [s.ps.high, s.ps.low]⟩, ⟨.pht, [0x8B], 3, [s.dt]⟩, ⟨.phx, [0xDA], 4, pushedBytes s.xw s.x⟩,
        ⟨.phy, [0x5A], 4, pushedBytes s.xw s.y⟩],
      p.encoded ∧
      (s.canPush (s.lengthOf p.instr) p.effect.length s.sp = true → s.mayContinue p.instr = true →
        ∃ t, exec p.instr s = .next t ∧ pushes p.effect s t ∧ passes p.instr s t ∧ onlyChanges [.mem, .sp, .pc, .pg] s t)

/-- R240 to R246: the single-register pulls: code, cycles, the register over the width of m or x (PLT 8 bits, PLD 16), N and Z
from what was pulled but for PLD, which writes no flag, and PLP, which loads all of PS; S rises by the bytes pulled. That S
wraps and that PSH bits 7 to 3 are dropped are the spec's own choices D4, D10 (logs 10, 11). -/
def Obligations.SinglePulls : Prop :=
  ∀ s : State,
    (∀ p ∈ [(⟨.pla, [0x68], 5, .a⟩ : Entry Acc), ⟨.plb, [0x42, 0x68], 7, .b⟩],
      p.encoded ∧ (s.canPull (bytesOf s.mw) s.sp = true → s.mayContinue p.instr = true →
        ∃ t, exec p.instr s = .next t ∧ receives s.mw (s.acc p.effect) (t.acc p.effect) (s.stackNumber s.mw 0) ∧
          flagsNZ s.mw (s.stackNumber s.mw 0) t.ps ∧ t.sp = s.sp + BitVec.ofNat 16 (bytesOf s.mw) ∧ passes p.instr s t ∧
          onlyChanges [.acc p.effect, .flagN, .flagZ, .sp, .pc, .pg] s t)) ∧
    (∀ p ∈ [(⟨.plx, [0xFA], 5, true⟩ : Entry Bool), ⟨.ply, [0x7A], 5, false⟩],
      p.encoded ∧ (s.canPull (bytesOf s.xw) s.sp = true → s.mayContinue p.instr = true →
        ∃ t, exec p.instr s = .next t ∧
          (if p.effect then receives s.xw s.x t.x (s.stackNumber s.xw 0) else receives s.xw s.y t.y (s.stackNumber s.xw 0)) ∧
          flagsNZ s.xw (s.stackNumber s.xw 0) t.ps ∧ t.sp = s.sp + BitVec.ofNat 16 (bytesOf s.xw) ∧ passes p.instr s t ∧
          onlyChanges [if p.effect then .x else .y, .flagN, .flagZ, .sp, .pc, .pg] s t)) ∧
    (⟨.plt, [0xAB], 6, ()⟩ : Entry Unit).encoded ∧
    (s.canPull 1 s.sp = true → s.mayGoTo (s.nextPC 1) (s.stackByte 1) = true →
      ∃ t, exec .plt s = .next t ∧ t.dt = s.stackByte 1 ∧ flagsNZ .w8 (s.stackByte 1).toNat t.ps ∧ t.sp = s.sp + 1 ∧
        passes .plt s t ∧ onlyChanges [.dt, .flagN, .flagZ, .sp, .pc, .pg] s t) ∧
    (⟨.pld, [0x2B], 5, ()⟩ : Entry Unit).encoded ∧
    (s.canPull 2 s.sp = true → s.mayContinue .pld = true →
      ∃ t, exec .pld s = .next t ∧ t.dpr.toNat = s.stackNumber .w16 0 ∧ t.sp = s.sp + 2 ∧ passes .pld s t ∧
        onlyChanges [.dpr, .sp, .pc, .pg] s t) ∧
    (⟨.plp, [0x28], 6, ()⟩ : Entry Unit).encoded ∧
    (s.canPull 2 s.sp = true → s.mayContinue .plp = true →
      ∃ t, exec .plp s = .next t ∧ t.ps.low = s.stackByte 1 ∧ t.ps.ipl.toNat = (s.stackByte 2).toNat % 8 ∧ t.sp = s.sp + 2 ∧
        passes .plp s t ∧ onlyChanges [.flagN, .flagV, .flagM, .flagX, .flagD, .flagI, .flagZ, .flagC, .ipl, .sp, .pc, .pg] s t)

/-- R250 to R252: PEA pushes its two operand bytes, PEI the word at DPR + dd, PER the low 16 bits of the address after the
instruction plus its operand; upper byte first, 16 bits whatever m and x are; nothing but memory and S changes. The base of
PER and the wrap of S are the spec's own choices D5, D4 (logs 11, 12). -/
def Obligations.PushComputed : Prop :=
  ∀ (s : State) (b2 b3 dd : Byte), s.mem.wf = true →
    (s.canPush 3 2 s.sp = true → s.mayContinue (.pea (wordOf b3 b2)) = true →
      ∃ t, exec (.pea (wordOf b3 b2)) s = .next t ∧ pushes [b3, b2] s t ∧ passes (.pea (wordOf b3 b2)) s t ∧
        onlyChanges [.mem, .sp, .pc, .pg] s t) ∧
    (∀ a : Addr, a.toNat = s.dpr.toNat + dd.toNat → s.canRead 2 a = true → s.canPush 2 2 s.sp = true →
      s.mayContinue (.pei dd) = true →
      ∃ t, exec (.pei dd) s = .next t ∧ pushes [s.mem.get (a + 1), s.mem.get a] s t ∧ passes (.pei dd) s t ∧
        onlyChanges [.mem, .sp, .pc, .pg] s t) ∧
    (s.canPush 3 2 s.sp = true → s.mayContinue (.per (wordOf b3 b2)) = true →
      ∃ t, exec (.per (wordOf b3 b2)) s = .next t ∧
        (let ear := ((s.nextPC 3).toNat + 256 * b3.toNat + b2.toNat) % 65536
         pushes [BitVec.ofNat 8 (ear / 256), BitVec.ofNat 8 ear] s t) ∧
        passes (.per (wordOf b3 b2)) s t ∧ onlyChanges [.mem, .sp, .pc, .pg] s t)

/-- R253: PSH pushes the registers its mask selects in the order A, B, X, Y, DPR, DT, PG, PS, each as its own push does, and
changes no register but S and no flag; an empty mask pushes nothing. That S wraps and that PSH bits 7 to 3 are 0 are the
spec's own choices D4, D10 (logs 10, 11). -/
def Obligations.PushSelected : Prop :=
  ∀ (s : State) (nn : Byte), s.mem.wf = true → s.canPush 2 (s.selectedBytes nn).length s.sp = true →
    s.mayContinue (.psh nn) = true →
    ∃ t, exec (.psh nn) s = .next t ∧ pushes (s.selectedBytes nn) s t ∧ passes (.psh nn) s t ∧
      onlyChanges [.mem, .sp, .pc, .pg] s t

/-- R254: PUL with mask bit 6 clear restores the registers its mask selects in the order PS, DT, DPR, Y, X, B, A, under the
widths in force before it, and leaves the others; N and Z are not written from them; only BH is a free value where m was 0 and
the restored m is 1. With bit 6 set it is refused (D24). Widths, BH and the refusal are the spec's own choices D23, D24 (log
21). -/
def Obligations.PullSelected : Prop :=
  ∀ (s : State) (nn : Byte),
    let below : List Nat → Nat := pulBytes s.mw s.xw nn
    let total := below [7, 5, 4, 3, 2, 1, 0]
    let dt := if nn.getLsbD 5 then s.stackByte (below [7] + 1) else s.dt
    let openB := s.ps.m = false ∧ nn.getLsbD 7 = true ∧ (s.stackByte 1).getLsbD 5 = true
    (nn.getLsbD 6 = false → s.canPull total s.sp = true → s.mayGoTo (s.nextPC 2) dt = true →
      ∃ t, exec (.pul nn) s = .next t ∧
        (if nn.getLsbD 7 then t.ps.low = s.stackByte 1 ∧ t.ps.ipl.toNat = (s.stackByte 2).toNat % 8 else t.ps = s.ps) ∧
        t.dt = dt ∧
        (if nn.getLsbD 4 then t.dpr.toNat = s.stackNumber .w16 (below [7, 5]) else t.dpr = s.dpr) ∧
        (if nn.getLsbD 3 then receives s.xw s.y t.y (s.stackNumber s.xw (below [7, 5, 4])) else t.y = s.y) ∧
        (if nn.getLsbD 2 then receives s.xw s.x t.x (s.stackNumber s.xw (below [7, 5, 4, 3])) else t.x = s.x) ∧
        (¬ openB →
          if nn.getLsbD 1 then receives s.mw s.b t.b (s.stackNumber s.mw (below [7, 5, 4, 3, 2])) else t.b = s.b) ∧
        (openB → lowByte t.b = if nn.getLsbD 1 then s.stackByte (below [7, 5, 4, 3, 2] + 1) else lowByte s.b) ∧
        (if nn.getLsbD 0 then receives s.mw s.a t.a (s.stackNumber s.mw (below [7, 5, 4, 3, 2, 1])) else t.a = s.a) ∧
        t.sp = s.sp + BitVec.ofNat 16 total ∧ passes (.pul nn) s t ∧
        onlyChanges [.acc .a, .acc .b, .x, .y, .dpr, .dt, .flagN, .flagV, .flagM, .flagX, .flagD, .flagI, .flagZ, .flagC,
          .ipl, .sp, .pc, .pg, .free] s t) ∧
    (nn.getLsbD 6 = true → exec (.pul nn) s = .refused .pulProgramBank)

/-- R254: PSH with a mask and then PUL with the same mask, bit 6 clear, gives back every register, every flag and S. -/
def Obligations.PushThenPull : Prop :=
  ∀ (s : State) (nn : Byte), s.mem.wf = true → nn.getLsbD 6 = false →
    s.canPush 2 (s.selectedBytes nn).length s.sp = true → s.mayContinue (.psh nn) = true →
    s.mayGoTo (s.nextPC 2 + 2) s.dt = true →
    ∃ t u, exec (.psh nn) s = .next t ∧ exec (.pul nn) t = .next u ∧ u.pcAddr = s.nextPC 2 + 2 ∧
      onlyChanges [.mem, .pc, .pg] s u

/-! Transfers and flags -/

/-- R264 to R274, R276 to R280: XAB exchanges A and B over the width of m; the transfers to an accumulator (width m; an index
register of 8 bits is zero-extended) and to an index register (width x; all 16 bits of an accumulator when x = 0, whatever m
is): code, cycles, the destination over its width, N and Z from what was written, the source and everything else unchanged.
TSB with m = 1 is the spec's inference (R271). -/
def Obligations.Transfers : Prop :=
  ∀ s : State,
    (∀ p ∈ [(⟨.tda, [0x7B], 2, (.a, s.dpr.toNat)⟩ : Entry (Acc × Nat)), ⟨.tdb, [0x42, 0x7B], 4, (.b, s.dpr.toNat)⟩,
        ⟨.tsa, [0x3B], 2, (.a, s.sp.toNat)⟩, ⟨.tsb, [0x42, 0x3B], 4, (.b, s.sp.toNat)⟩,
        ⟨.txa, [0x8A], 2, (.a, lowBits s.xw s.x)⟩, ⟨.txb, [0x42, 0x8A], 4, (.b, lowBits s.xw s.x)⟩,
        ⟨.tya, [0x98], 2, (.a, lowBits s.xw s.y)⟩, ⟨.tyb, [0x42, 0x98], 4, (.b, lowBits s.xw s.y)⟩],
      let n := p.effect.2 % 2 ^ bitsOf s.mw
      p.encoded ∧ (s.mayContinue p.instr = true →
        ∃ t, exec p.instr s = .next t ∧ receives s.mw (s.acc p.effect.1) (t.acc p.effect.1) n ∧ flagsNZ s.mw n t.ps ∧
          passes p.instr s t ∧ onlyChanges [.acc p.effect.1, .flagN, .flagZ, .pc, .pg] s t)) ∧
    (∀ p ∈ [(⟨.tax, [0xAA], 2, s.a⟩ : Entry Word), ⟨.tbx, [0x42, 0xAA], 4, s.b⟩, ⟨.tsx, [0xBA], 2, s.sp⟩,
        ⟨.tyx, [0xBB], 2, s.y⟩],
      p.encoded ∧ (s.mayContinue p.instr = true →
        ∃ t, exec p.instr s = .next t ∧ receives s.xw s.x t.x (lowBits s.xw p.effect) ∧
          flagsNZ s.xw (lowBits s.xw p.effect) t.ps ∧ passes p.instr s t ∧ onlyChanges [.x, .flagN, .flagZ, .pc, .pg] s t)) ∧
    (∀ p ∈ [(⟨.tay, [0xA8], 2, s.a⟩ : Entry Word), ⟨.tby, [0x42, 0xA8], 4, s.b⟩, ⟨.txy, [0x9B], 2, s.x⟩],
      p.encoded ∧ (s.mayContinue p.instr = true →
        ∃ t, exec p.instr s = .next t ∧ receives s.xw s.y t.y (lowBits s.xw p.effect) ∧
          flagsNZ s.xw (lowBits s.xw p.effect) t.ps ∧ passes p.instr s t ∧ onlyChanges [.y, .flagN, .flagZ, .pc, .pg] s t)) ∧
    (⟨.xab, [0x89, 0x28], 6, ()⟩ : Entry Unit).encoded ∧
    (s.mayContinue .xab = true →
      ∃ t, exec .xab s = .next t ∧ receives s.mw s.a t.a (lowBits s.mw s.b) ∧ receives s.mw s.b t.b (lowBits s.mw s.a) ∧
        flagsNZ s.mw (lowBits s.mw s.b) t.ps ∧ passes .xab s t ∧
        onlyChanges [.acc .a, .acc .b, .flagN, .flagZ, .pc, .pg] s t)

/-- R260 to R263, R275: TAD, TBD, TAS, TBS move 16 bits whatever m is; TXS moves X, its high byte read as 00 when x = 1; none
writes a flag, and nothing else changes. -/
def Obligations.TransfersToBase : Prop :=
  ∀ s : State,
    (∀ p ∈ [(⟨.tad, [0x5B], 2, s.a⟩ : Entry Word), ⟨.tbd, [0x42, 0x5B], 4, s.b⟩],
      p.encoded ∧ (s.mayContinue p.instr = true →
        ∃ t, exec p.instr s = .next t ∧ t.dpr = p.effect ∧ passes p.instr s t ∧ onlyChanges [.dpr, .pc, .pg] s t)) ∧
    (∀ p ∈ [(⟨.tas, [0x1B], 2, s.a.toNat⟩ : Entry Nat), ⟨.tbs, [0x42, 0x1B], 4, s.b.toNat⟩,
        ⟨.txs, [0x9A], 2, lowBits s.xw s.x⟩],
      p.encoded ∧ (s.mayContinue p.instr = true →
        ∃ t, exec p.instr s = .next t ∧ t.sp.toNat = p.effect ∧ passes p.instr s t ∧ onlyChanges [.sp, .pc, .pg] s t))

/-- R290 to R298: the flag instructions: code, cycles, the flag each clears or sets; CLP clears and SEP sets the flags of PSL
whose mask bit is 1 and leaves the others; IPL and everything else keep their value. That CLP leaves IPL is the spec's
inference (R294). -/
def Obligations.FlagInstructions : Prop :=
  ∀ s : State,
    (∀ p ∈ [(⟨.clc, [0x18], 2, (.flagC, { s.ps with c := false })⟩ : Entry (Part × PS)),
        ⟨.cli, [0x58], 2, (.flagI, { s.ps with i := false })⟩, ⟨.clm, [0xD8], 2, (.flagM, { s.ps with m := false })⟩,
        ⟨.clv, [0xB8], 2, (.flagV, { s.ps with v := false })⟩, ⟨.sec, [0x38], 2, (.flagC, { s.ps with c := true })⟩,
        ⟨.sei, [0x78], 2, (.flagI, { s.ps with i := true })⟩, ⟨.sem, [0xF8], 2, (.flagM, { s.ps with m := true })⟩],
      p.encoded ∧ (s.mayContinue p.instr = true →
        ∃ t, exec p.instr s = .next t ∧ t.ps = p.effect.2 ∧ passes p.instr s t ∧
          onlyChanges [p.effect.1, .pc, .pg] s t)) ∧
    ∀ imm : Byte, ∀ p ∈ [(⟨.clp imm, [0xC2, imm], 4, false⟩ : Entry Bool), ⟨.sep imm, [0xE2, imm], 3, true⟩],
      p.encoded ∧ (s.mayContinue p.instr = true →
        ∃ t, exec p.instr s = .next t ∧
          (∀ k < 8, t.ps.low.getLsbD k = if imm.getLsbD k then p.effect else s.ps.low.getLsbD k) ∧ passes p.instr s t ∧
          onlyChanges [.flagN, .flagV, .flagM, .flagX, .flagD, .flagI, .flagZ, .flagC, .pc, .pg] s t)

/-- R299, R300: SEB sets and CLB clears in the datum at the effective address exactly the bits the mask selects; all bytes of
the datum are written; no register, no flag and no other byte of memory changes. That CLB clears several bits at once is the
spec's inference (R300). -/
def Obligations.MemoryBits : Prop :=
  ∀ (s : State) (o : MemMode) (imm : Word) (a : Addr), s.ea o = .ok a → s.mem.wf = true →
    ∀ p ∈ [(Instr.seb o imm, true), (.clb o imm, false)],
      s.canStore (s.lengthOf p.1) s.mw a = true → s.mayContinue p.1 = true →
      ∃ t n, exec p.1 s = .next t ∧ stores s.mw a n s t ∧
        (∀ j < bitsOf s.mw, n.testBit j = if imm.getLsbD j then p.2 else (s.number (bytesOf s.mw) a).testBit j) ∧
        passes p.1 s t ∧ onlyChanges [.mem, .pc, .pg] s t

/-! Block transfer -/

/-- R310, R311, R313: MVN and MVP, with whatever overlap and wrap: they complete where every source byte can be read and every
target byte stored; X and Y are counted up (MVN) or down (MVP) by the count modulo the index width; after a count that is not
0, A (AL when m = 1) is all ones and DT the target bank; after a count of 0 nothing is moved and A and DT are free values;
every byte of memory but the `n` target bytes keeps its value. Atomicity, the wrap of the index and the values after a count
of 0 are the spec's own choices D14, D31, D22 (logs 11, 22). -/
def Obligations.BlockRegisters : Prop :=
  ∀ (s : State) (n1 n2 : Byte),
    let n := lowBits s.mw s.a
    let w := s.xw
    ∀ p ∈ [(Instr.mvn n1 n2, true), (.mvp n1 n2, false)],
      (∀ k < n, s.canReadByte (addrOf n2 (BitVec.ofNat 16 (blockIndex w p.2 s.x k))) = true ∧
        s.canStoreByte 3 (addrOf n1 (BitVec.ofNat 16 (blockIndex w p.2 s.y k))) = true) →
      s.mem.wf = true → s.mayGoTo (s.nextPC 3) n1 = true → (s.cfg.mode = .singleChip → n ≠ 0) →
      ∃ t, exec p.1 s = .next t ∧ receives w s.x t.x (blockIndex w p.2 s.x n) ∧ receives w s.y t.y (blockIndex w p.2 s.y n) ∧
        (n ≠ 0 → receives s.mw s.a t.a (2 ^ bitsOf s.mw - 1) ∧ t.dt = n1) ∧
        (n = 0 → Part.same s t .mem ∧ ∃ q, receives s.mw s.a t.a q) ∧
        (∀ a : Addr, (∀ k < n, a ≠ addrOf n1 (BitVec.ofNat 16 (blockIndex w p.2 s.y k))) → t.mem.get a = s.mem.get a) ∧
        passes p.1 s t ∧ onlyChanges [.acc .a, .x, .y, .dt, .mem, .pc, .pg, .free] s t

/-- R310, R311, R313: what MVN and MVP leave in memory. For blocks that lie inside the index range, apart or overlapping in
the direction the instruction is meant for (MVN: the target not above the source, MVP: not below it, or in another bank), byte
`k` of the target holds what byte `k` of the source held before, and every byte outside the target is unchanged. That bytes
move one by one in one step is the spec's own choice D14 (log 22); which overlaps are open is the model's reading (log 23). -/
def Obligations.BlockMemory : Prop :=
  ∀ (s : State) (n1 n2 : Byte),
    let n := lowBits s.mw s.a
    let x := lowBits s.xw s.x
    let y := lowBits s.xw s.y
    let byte : Byte → Nat → Addr := fun bank k => addrOf bank (BitVec.ofNat 16 k)
    let target : Nat → Nat → Addr := fun first k => byte n1 (first + k)
    ∀ p ∈ [(Instr.mvn n1 n2, x, y), (.mvp n1 n2, x + 1 - n, y + 1 - n)],
      (p.1 = .mvn n1 n2 → x + n ≤ 2 ^ bitsOf s.xw ∧ y + n ≤ 2 ^ bitsOf s.xw ∧ (n1 = n2 → y ≤ x ∨ x + n ≤ y)) →
      (p.1 = .mvp n1 n2 → n ≤ x + 1 ∧ n ≤ y + 1 ∧ (n1 = n2 → x ≤ y ∨ y + n ≤ x)) →
      (∀ k < n, s.canReadByte (byte n2 (p.2.1 + k)) = true ∧ s.canStoreByte 3 (target p.2.2 k) = true) →
      s.mem.wf = true → s.mayGoTo (s.nextPC 3) n1 = true → n ≠ 0 →
      ∃ t, exec p.1 s = .next t ∧
        (∀ k < n, t.mem.get (target p.2.2 k) = s.mem.get (byte n2 (p.2.1 + k))) ∧
        ∀ a : Addr, (∀ k < n, a ≠ target p.2.2 k) → t.mem.get a = s.mem.get a

/-! NOP, the software interrupt, the power states -/

/-- R312: NOP only moves past itself; every register, flag and byte of memory keeps its value. -/
def Obligations.NoOperation : Prop :=
  ∀ s : State, (⟨.nop, [0xEA], 2, ()⟩ : Entry Unit).encoded ∧
    (s.mayContinue .nop = true → ∃ t, exec .nop s = .next t ∧ passes .nop s t ∧ onlyChanges [.pc, .pg] s t)

/-- R337, R340, R374: BRK, whatever I and IPL are and whatever its second byte is: pushes PG, PCH, PCL of the address 2 after
it, then PSH and PSL as they were; I becomes 1, IPL and the other flags stay; PC is loaded from the BRK vector and PG becomes
00. Where the vector lies is a parameter of the model (spec's D7, log 4), PSH bits 7 to 3 its D10 (log 10). That a vector
outside bank 0 is read where it lies is the model's choice (log 34). -/
def Obligations.SoftwareInterrupt : Prop :=
  ∀ (s : State) (nn : Byte), s.mem.wf = true → s.canPush 2 5 s.sp = true → s.canRead 2 s.cfg.brkVector = true →
    banksLegal s.cfg 0 s.dt = true → s.run = .running →
    let ret := s.nextPC 2
    (⟨.brk nn, [0x00, nn], 15, ()⟩ : Entry Unit).encoded ∧
    ∃ t, exec (.brk nn) s = .next t ∧
      pushes [bankOf ret, highByte (offsetOf ret), lowByte (offsetOf ret), s.ps.high, s.ps.low] s t ∧
      t.ps = { s.ps with i := true } ∧ t.pc.toNat = t.number 2 s.cfg.brkVector ∧ t.pg = 0 ∧
      onlyChanges [.mem, .sp, .flagI, .pc, .pg] s t

/-- R341: RTI pulls PSL, PSH, PCL, PCH, PG, so that all of PS (bits 7 to 3 of the pulled PSH dropped), PC and PG are what the
stack holds; S rises by 5; nothing else changes. That PSH bits 7 to 3 are dropped and S wraps are the spec's own choices D10,
D4 (logs 10, 11). -/
def Obligations.InterruptReturn : Prop :=
  ∀ s : State, s.canPull 5 s.sp = true → banksLegal s.cfg (s.stackByte 5) s.dt = true →
    (⟨.rti, [0x40], 11, ()⟩ : Entry Unit).encoded ∧
    ∃ t, exec .rti s = .next t ∧ t.ps.low = s.stackByte 1 ∧ t.ps.ipl.toNat = (s.stackByte 2).toNat % 8 ∧
      t.pc.toNat = s.stackNumber .w16 2 ∧ t.pg = s.stackByte 5 ∧ t.sp = s.sp + 5 ∧
      onlyChanges [.flagN, .flagV, .flagM, .flagX, .flagD, .flagI, .flagZ, .flagC, .ipl, .pc, .pg, .sp] s t

/-- R337, R340, R341: BRK and then RTI come back to the address 2 after the BRK with S, all of PS and every register as they
were; only bytes below the old S differ in memory. Only the address of the vector is a parameter (spec's D7, log 4). That a
vector outside bank 0 is read where it lies is the model's choice (log 34). -/
def Obligations.BreakThenReturn : Prop :=
  ∀ (s : State) (nn : Byte), s.mem.wf = true → s.canPush 2 5 s.sp = true → s.canRead 2 s.cfg.brkVector = true →
    banksLegal s.cfg 0 s.dt = true → s.mayGoTo (s.nextPC 2) s.dt = true → s.run = .running →
    ∃ t u, exec (.brk nn) s = .next t ∧ exec .rti t = .next u ∧ u.pcAddr = s.nextPC 2 ∧ onlyChanges [.mem, .pc, .pg] s u ∧
      ∀ a : Addr, (∀ k < 5, a ≠ addrOf 0 (s.sp - BitVec.ofNat 16 k)) → u.mem.get a = s.mem.get a

/-! Whole-machine rules -/

/-- R27: no instruction but PLP, RTI and PUL with bit 7 changes IPL. -/
def Obligations.IplWriters : Prop :=
  ∀ (i : Instr) (s t : State), exec i s = .next t → loadsIpl i = false → t.ps.ipl = s.ps.ipl

/-- R22: every instruction that does not transfer control ends with PG:PC at the address after it, carried into PG modulo
2^24. The wrap modulo 2^24 is the spec's own choice D1 (log 11). -/
def Obligations.SequentialAdvance : Prop :=
  ∀ (i : Instr) (s t : State), exec i s = .next t → transfersControl i = false →
    t.pcAddr.toNat = (s.pcAddr.toNat + s.lengthOf i) % 2 ^ 24

/-- R365: in single-chip mode no instruction ends with PG or DT other than 00; and no instruction changes the processor mode.
That such an instruction is refused is the spec's own choice D32 (log 26). -/
def Obligations.SingleChipBanks : Prop :=
  ∀ (i : Instr) (s t : State), exec i s = .next t →
    t.cfg = s.cfg ∧ (s.cfg.mode = .singleChip → t.pg = 0 ∧ t.dt = 0)

end Statements
end

