-- ==== Sys2Proof/Laws/Memory.lean ====
section
/-! SUPPORT. The laws of memory: read after write, and every write keeps the canonical form. -/

namespace Sys2Proof.Machine

theorem cellsGet_cellOrNone (l : List Host.Cell) (b : Nat) (v : Byte) (a : Nat) (h : cellsGet l b = unlistedByte) :
    cellsGet (cellOrNone b v l) a = if a = b then v else cellsGet l a := by
  unfold cellOrNone
  split
  · split
    · next hv ha => rw [ha, h, hv]
    · rfl
  · rfl

/-- An address below every listed one reads as unlisted. -/
theorem cellsGet_below (l : List Host.Cell) (low a : Nat) (hw : cellsWf low l = true) (h : a < low) :
    cellsGet l a = unlistedByte := by
  induction l generalizing low with
  | nil => rfl
  | cons c rest ih =>
    obtain ⟨b, v⟩ := c
    simp only [cellsWf, Bool.and_eq_true, decide_eq_true_eq] at hw
    obtain ⟨⟨⟨h1, h2⟩, h3⟩, h4⟩ := hw
    have hne : a ≠ b := by omega
    simp only [cellsGet, hne, if_false]
    exact ih (b + 1) h4 (by omega)

theorem cellsWf_mono (l : List Host.Cell) (low low' : Nat) (h : low ≤ low') (hw : cellsWf low' l = true) :
    cellsWf low l = true := by
  cases l with
  | nil => rfl
  | cons c rest =>
    obtain ⟨b, v⟩ := c
    simp only [cellsWf, Bool.and_eq_true, decide_eq_true_eq] at hw ⊢
    exact ⟨⟨⟨by omega, hw.1.1.2⟩, hw.1.2⟩, hw.2⟩

theorem cellsWf_cellOrNone (l : List Host.Cell) (low a : Nat) (v : Byte) (h1 : low ≤ a) (h2 : a < 2 ^ 24)
    (hw : cellsWf (a + 1) l = true) : cellsWf low (cellOrNone a v l) = true := by
  unfold cellOrNone
  split
  · exact cellsWf_mono l low (a + 1) (by omega) hw
  · next hv =>
    simp only [cellsWf, Bool.and_eq_true, decide_eq_true_eq]
    exact ⟨⟨⟨h1, h2⟩, hv⟩, hw⟩

theorem cellsSet_wf (l : List Host.Cell) (low a : Nat) (v : Byte) (h1 : low ≤ a) (h2 : a < 2 ^ 24)
    (hw : cellsWf low l = true) : cellsWf low (cellsSet l a v) = true := by
  induction l generalizing low with
  | nil => exact cellsWf_cellOrNone [] low a v h1 h2 rfl
  | cons c rest ih =>
    obtain ⟨b, u⟩ := c
    have hw' := hw
    simp only [cellsWf, Bool.and_eq_true, decide_eq_true_eq] at hw
    obtain ⟨⟨⟨k1, k2⟩, k3⟩, k4⟩ := hw
    simp only [cellsSet]
    split
    · refine cellsWf_cellOrNone _ low a v h1 h2 ?_
      simp only [cellsWf, Bool.and_eq_true, decide_eq_true_eq]
      exact ⟨⟨⟨by omega, k2⟩, k3⟩, k4⟩
    · split
      · next _ hab => exact cellsWf_cellOrNone _ low a v h1 h2 (hab ▸ k4)
      · simp only [cellsWf, Bool.and_eq_true, decide_eq_true_eq]
        exact ⟨⟨⟨k1, k2⟩, k3⟩, ih (b + 1) (by omega) k4⟩

theorem cellsGet_cellsSet (l : List Host.Cell) (low a c : Nat) (v : Byte) (hw : cellsWf low l = true) :
    cellsGet (cellsSet l a v) c = if c = a then v else cellsGet l c := by
  induction l generalizing low with
  | nil => exact cellsGet_cellOrNone [] a v c rfl
  | cons d rest ih =>
    obtain ⟨b, u⟩ := d
    simp only [cellsWf, Bool.and_eq_true, decide_eq_true_eq] at hw
    obtain ⟨⟨⟨k1, k2⟩, k3⟩, k4⟩ := hw
    simp only [cellsSet]
    split
    · next hab =>
      refine cellsGet_cellOrNone _ a v c ?_
      refine cellsGet_below _ b a ?_ hab
      simp only [cellsWf, Bool.and_eq_true, decide_eq_true_eq]
      exact ⟨⟨⟨Nat.le_refl b, k2⟩, k3⟩, k4⟩
    · split
      · next _ hab =>
        rw [cellsGet_cellOrNone rest a v c (cellsGet_below rest (b + 1) a k4 (by omega))]
        simp only [cellsGet, hab]
        split <;> rfl
      · next h1 h2 =>
        simp only [cellsGet, ih (b + 1) k4]
        by_cases hcb : c = b
        · have : ¬ c = a := by omega
          simp [hcb]
          intro hba
          omega
        · simp [hcb]

@[simp] theorem Memory.empty_wf : Memory.empty.wf = true := rfl

@[simp] theorem Memory.get_empty (a : Addr) : Memory.empty.get a = unlistedByte := rfl

/-- A write keeps the canonical form. -/
theorem Memory.set_wf (m : Memory) (a : Addr) (v : Byte) (h : m.wf = true) : (m.set a v).wf = true :=
  cellsSet_wf m.cells 0 a.toNat v (Nat.zero_le _) a.isLt h

/-- Reading after a write: the value written at that address, what was there before elsewhere. -/
theorem Memory.get_set (m : Memory) (a b : Addr) (v : Byte) (h : m.wf = true) :
    (m.set a v).get b = if b = a then v else m.get b := by
  unfold Memory.get Memory.set
  rw [cellsGet_cellsSet m.cells 0 a.toNat b.toNat v h]
  simp only [BitVec.toNat_inj]

end Sys2Proof.Machine
end

