-- ==== Sys2Proof/Laws/State.lean ====
section
/-! SUPPORT. One lemma for each field of State under each register update, so that no proof unfolds an update; then what the
derived views and the memory reads make of the updates. -/

namespace Sys2Proof.Machine

@[simp] theorem State.setX_a (s : State) (w : Width) (v : Word) : (s.setX w v).a = s.a := rfl
@[simp] theorem State.setX_b (s : State) (w : Width) (v : Word) : (s.setX w v).b = s.b := rfl
@[simp] theorem State.setX_x (s : State) (w : Width) (v : Word) : (s.setX w v).x = mergeLow w s.x v := rfl
@[simp] theorem State.setX_y (s : State) (w : Width) (v : Word) : (s.setX w v).y = s.y := rfl
@[simp] theorem State.setX_sp (s : State) (w : Width) (v : Word) : (s.setX w v).sp = s.sp := rfl
@[simp] theorem State.setX_pc (s : State) (w : Width) (v : Word) : (s.setX w v).pc = s.pc := rfl
@[simp] theorem State.setX_pg (s : State) (w : Width) (v : Word) : (s.setX w v).pg = s.pg := rfl
@[simp] theorem State.setX_dt (s : State) (w : Width) (v : Word) : (s.setX w v).dt = s.dt := rfl
@[simp] theorem State.setX_dpr (s : State) (w : Width) (v : Word) : (s.setX w v).dpr = s.dpr := rfl
@[simp] theorem State.setX_ps (s : State) (w : Width) (v : Word) : (s.setX w v).ps = s.ps := rfl
@[simp] theorem State.setX_run (s : State) (w : Width) (v : Word) : (s.setX w v).run = s.run := rfl
@[simp] theorem State.setX_mem (s : State) (w : Width) (v : Word) : (s.setX w v).mem = s.mem := rfl
@[simp] theorem State.setX_pending (s : State) (w : Width) (v : Word) : (s.setX w v).pending = s.pending := rfl
@[simp] theorem State.setX_inputs (s : State) (w : Width) (v : Word) : (s.setX w v).inputs = s.inputs := rfl
@[simp] theorem State.setX_cfg (s : State) (w : Width) (v : Word) : (s.setX w v).cfg = s.cfg := rfl
@[simp] theorem State.setX_free (s : State) (w : Width) (v : Word) : (s.setX w v).free = s.free := rfl
@[simp] theorem State.setX_cycles (s : State) (w : Width) (v : Word) : (s.setX w v).cycles = s.cycles := rfl

@[simp] theorem State.setY_a (s : State) (w : Width) (v : Word) : (s.setY w v).a = s.a := rfl
@[simp] theorem State.setY_b (s : State) (w : Width) (v : Word) : (s.setY w v).b = s.b := rfl
@[simp] theorem State.setY_x (s : State) (w : Width) (v : Word) : (s.setY w v).x = s.x := rfl
@[simp] theorem State.setY_y (s : State) (w : Width) (v : Word) : (s.setY w v).y = mergeLow w s.y v := rfl
@[simp] theorem State.setY_sp (s : State) (w : Width) (v : Word) : (s.setY w v).sp = s.sp := rfl
@[simp] theorem State.setY_pc (s : State) (w : Width) (v : Word) : (s.setY w v).pc = s.pc := rfl
@[simp] theorem State.setY_pg (s : State) (w : Width) (v : Word) : (s.setY w v).pg = s.pg := rfl
@[simp] theorem State.setY_dt (s : State) (w : Width) (v : Word) : (s.setY w v).dt = s.dt := rfl
@[simp] theorem State.setY_dpr (s : State) (w : Width) (v : Word) : (s.setY w v).dpr = s.dpr := rfl
@[simp] theorem State.setY_ps (s : State) (w : Width) (v : Word) : (s.setY w v).ps = s.ps := rfl
@[simp] theorem State.setY_run (s : State) (w : Width) (v : Word) : (s.setY w v).run = s.run := rfl
@[simp] theorem State.setY_mem (s : State) (w : Width) (v : Word) : (s.setY w v).mem = s.mem := rfl
@[simp] theorem State.setY_pending (s : State) (w : Width) (v : Word) : (s.setY w v).pending = s.pending := rfl
@[simp] theorem State.setY_inputs (s : State) (w : Width) (v : Word) : (s.setY w v).inputs = s.inputs := rfl
@[simp] theorem State.setY_cfg (s : State) (w : Width) (v : Word) : (s.setY w v).cfg = s.cfg := rfl
@[simp] theorem State.setY_free (s : State) (w : Width) (v : Word) : (s.setY w v).free = s.free := rfl
@[simp] theorem State.setY_cycles (s : State) (w : Width) (v : Word) : (s.setY w v).cycles = s.cycles := rfl

@[simp] theorem State.setSp_a (s : State) (v : Word) : (s.setSp v).a = s.a := rfl
@[simp] theorem State.setSp_b (s : State) (v : Word) : (s.setSp v).b = s.b := rfl
@[simp] theorem State.setSp_x (s : State) (v : Word) : (s.setSp v).x = s.x := rfl
@[simp] theorem State.setSp_y (s : State) (v : Word) : (s.setSp v).y = s.y := rfl
@[simp] theorem State.setSp_sp (s : State) (v : Word) : (s.setSp v).sp = v := rfl
@[simp] theorem State.setSp_pc (s : State) (v : Word) : (s.setSp v).pc = s.pc := rfl
@[simp] theorem State.setSp_pg (s : State) (v : Word) : (s.setSp v).pg = s.pg := rfl
@[simp] theorem State.setSp_dt (s : State) (v : Word) : (s.setSp v).dt = s.dt := rfl
@[simp] theorem State.setSp_dpr (s : State) (v : Word) : (s.setSp v).dpr = s.dpr := rfl
@[simp] theorem State.setSp_ps (s : State) (v : Word) : (s.setSp v).ps = s.ps := rfl
@[simp] theorem State.setSp_run (s : State) (v : Word) : (s.setSp v).run = s.run := rfl
@[simp] theorem State.setSp_mem (s : State) (v : Word) : (s.setSp v).mem = s.mem := rfl
@[simp] theorem State.setSp_pending (s : State) (v : Word) : (s.setSp v).pending = s.pending := rfl
@[simp] theorem State.setSp_inputs (s : State) (v : Word) : (s.setSp v).inputs = s.inputs := rfl
@[simp] theorem State.setSp_cfg (s : State) (v : Word) : (s.setSp v).cfg = s.cfg := rfl
@[simp] theorem State.setSp_free (s : State) (v : Word) : (s.setSp v).free = s.free := rfl
@[simp] theorem State.setSp_cycles (s : State) (v : Word) : (s.setSp v).cycles = s.cycles := rfl

@[simp] theorem State.setDpr_a (s : State) (v : Word) : (s.setDpr v).a = s.a := rfl
@[simp] theorem State.setDpr_b (s : State) (v : Word) : (s.setDpr v).b = s.b := rfl
@[simp] theorem State.setDpr_x (s : State) (v : Word) : (s.setDpr v).x = s.x := rfl
@[simp] theorem State.setDpr_y (s : State) (v : Word) : (s.setDpr v).y = s.y := rfl
@[simp] theorem State.setDpr_sp (s : State) (v : Word) : (s.setDpr v).sp = s.sp := rfl
@[simp] theorem State.setDpr_pc (s : State) (v : Word) : (s.setDpr v).pc = s.pc := rfl
@[simp] theorem State.setDpr_pg (s : State) (v : Word) : (s.setDpr v).pg = s.pg := rfl
@[simp] theorem State.setDpr_dt (s : State) (v : Word) : (s.setDpr v).dt = s.dt := rfl
@[simp] theorem State.setDpr_dpr (s : State) (v : Word) : (s.setDpr v).dpr = v := rfl
@[simp] theorem State.setDpr_ps (s : State) (v : Word) : (s.setDpr v).ps = s.ps := rfl
@[simp] theorem State.setDpr_run (s : State) (v : Word) : (s.setDpr v).run = s.run := rfl
@[simp] theorem State.setDpr_mem (s : State) (v : Word) : (s.setDpr v).mem = s.mem := rfl
@[simp] theorem State.setDpr_pending (s : State) (v : Word) : (s.setDpr v).pending = s.pending := rfl
@[simp] theorem State.setDpr_inputs (s : State) (v : Word) : (s.setDpr v).inputs = s.inputs := rfl
@[simp] theorem State.setDpr_cfg (s : State) (v : Word) : (s.setDpr v).cfg = s.cfg := rfl
@[simp] theorem State.setDpr_free (s : State) (v : Word) : (s.setDpr v).free = s.free := rfl
@[simp] theorem State.setDpr_cycles (s : State) (v : Word) : (s.setDpr v).cycles = s.cycles := rfl

@[simp] theorem State.setDt_a (s : State) (v : Byte) : (s.setDt v).a = s.a := rfl
@[simp] theorem State.setDt_b (s : State) (v : Byte) : (s.setDt v).b = s.b := rfl
@[simp] theorem State.setDt_x (s : State) (v : Byte) : (s.setDt v).x = s.x := rfl
@[simp] theorem State.setDt_y (s : State) (v : Byte) : (s.setDt v).y = s.y := rfl
@[simp] theorem State.setDt_sp (s : State) (v : Byte) : (s.setDt v).sp = s.sp := rfl
@[simp] theorem State.setDt_pc (s : State) (v : Byte) : (s.setDt v).pc = s.pc := rfl
@[simp] theorem State.setDt_pg (s : State) (v : Byte) : (s.setDt v).pg = s.pg := rfl
@[simp] theorem State.setDt_dt (s : State) (v : Byte) : (s.setDt v).dt = v := rfl
@[simp] theorem State.setDt_dpr (s : State) (v : Byte) : (s.setDt v).dpr = s.dpr := rfl
@[simp] theorem State.setDt_ps (s : State) (v : Byte) : (s.setDt v).ps = s.ps := rfl
@[simp] theorem State.setDt_run (s : State) (v : Byte) : (s.setDt v).run = s.run := rfl
@[simp] theorem State.setDt_mem (s : State) (v : Byte) : (s.setDt v).mem = s.mem := rfl
@[simp] theorem State.setDt_pending (s : State) (v : Byte) : (s.setDt v).pending = s.pending := rfl
@[simp] theorem State.setDt_inputs (s : State) (v : Byte) : (s.setDt v).inputs = s.inputs := rfl
@[simp] theorem State.setDt_cfg (s : State) (v : Byte) : (s.setDt v).cfg = s.cfg := rfl
@[simp] theorem State.setDt_free (s : State) (v : Byte) : (s.setDt v).free = s.free := rfl
@[simp] theorem State.setDt_cycles (s : State) (v : Byte) : (s.setDt v).cycles = s.cycles := rfl

@[simp] theorem State.setPg_a (s : State) (v : Byte) : (s.setPg v).a = s.a := rfl
@[simp] theorem State.setPg_b (s : State) (v : Byte) : (s.setPg v).b = s.b := rfl
@[simp] theorem State.setPg_x (s : State) (v : Byte) : (s.setPg v).x = s.x := rfl
@[simp] theorem State.setPg_y (s : State) (v : Byte) : (s.setPg v).y = s.y := rfl
@[simp] theorem State.setPg_sp (s : State) (v : Byte) : (s.setPg v).sp = s.sp := rfl
@[simp] theorem State.setPg_pc (s : State) (v : Byte) : (s.setPg v).pc = s.pc := rfl
@[simp] theorem State.setPg_pg (s : State) (v : Byte) : (s.setPg v).pg = v := rfl
@[simp] theorem State.setPg_dt (s : State) (v : Byte) : (s.setPg v).dt = s.dt := rfl
@[simp] theorem State.setPg_dpr (s : State) (v : Byte) : (s.setPg v).dpr = s.dpr := rfl
@[simp] theorem State.setPg_ps (s : State) (v : Byte) : (s.setPg v).ps = s.ps := rfl
@[simp] theorem State.setPg_run (s : State) (v : Byte) : (s.setPg v).run = s.run := rfl
@[simp] theorem State.setPg_mem (s : State) (v : Byte) : (s.setPg v).mem = s.mem := rfl
@[simp] theorem State.setPg_pending (s : State) (v : Byte) : (s.setPg v).pending = s.pending := rfl
@[simp] theorem State.setPg_inputs (s : State) (v : Byte) : (s.setPg v).inputs = s.inputs := rfl
@[simp] theorem State.setPg_cfg (s : State) (v : Byte) : (s.setPg v).cfg = s.cfg := rfl
@[simp] theorem State.setPg_free (s : State) (v : Byte) : (s.setPg v).free = s.free := rfl
@[simp] theorem State.setPg_cycles (s : State) (v : Byte) : (s.setPg v).cycles = s.cycles := rfl

@[simp] theorem State.setMem_a (s : State) (m : Memory) : (s.setMem m).a = s.a := rfl
@[simp] theorem State.setMem_b (s : State) (m : Memory) : (s.setMem m).b = s.b := rfl
@[simp] theorem State.setMem_x (s : State) (m : Memory) : (s.setMem m).x = s.x := rfl
@[simp] theorem State.setMem_y (s : State) (m : Memory) : (s.setMem m).y = s.y := rfl
@[simp] theorem State.setMem_sp (s : State) (m : Memory) : (s.setMem m).sp = s.sp := rfl
@[simp] theorem State.setMem_pc (s : State) (m : Memory) : (s.setMem m).pc = s.pc := rfl
@[simp] theorem State.setMem_pg (s : State) (m : Memory) : (s.setMem m).pg = s.pg := rfl
@[simp] theorem State.setMem_dt (s : State) (m : Memory) : (s.setMem m).dt = s.dt := rfl
@[simp] theorem State.setMem_dpr (s : State) (m : Memory) : (s.setMem m).dpr = s.dpr := rfl
@[simp] theorem State.setMem_ps (s : State) (m : Memory) : (s.setMem m).ps = s.ps := rfl
@[simp] theorem State.setMem_run (s : State) (m : Memory) : (s.setMem m).run = s.run := rfl
@[simp] theorem State.setMem_mem (s : State) (m : Memory) : (s.setMem m).mem = m := rfl
@[simp] theorem State.setMem_pending (s : State) (m : Memory) : (s.setMem m).pending = s.pending := rfl
@[simp] theorem State.setMem_inputs (s : State) (m : Memory) : (s.setMem m).inputs = s.inputs := rfl
@[simp] theorem State.setMem_cfg (s : State) (m : Memory) : (s.setMem m).cfg = s.cfg := rfl
@[simp] theorem State.setMem_free (s : State) (m : Memory) : (s.setMem m).free = s.free := rfl
@[simp] theorem State.setMem_cycles (s : State) (m : Memory) : (s.setMem m).cycles = s.cycles := rfl

@[simp] theorem State.setPending_a (s : State) (l : List Nat) : (s.setPending l).a = s.a := rfl
@[simp] theorem State.setPending_b (s : State) (l : List Nat) : (s.setPending l).b = s.b := rfl
@[simp] theorem State.setPending_x (s : State) (l : List Nat) : (s.setPending l).x = s.x := rfl
@[simp] theorem State.setPending_y (s : State) (l : List Nat) : (s.setPending l).y = s.y := rfl
@[simp] theorem State.setPending_sp (s : State) (l : List Nat) : (s.setPending l).sp = s.sp := rfl
@[simp] theorem State.setPending_pc (s : State) (l : List Nat) : (s.setPending l).pc = s.pc := rfl
@[simp] theorem State.setPending_pg (s : State) (l : List Nat) : (s.setPending l).pg = s.pg := rfl
@[simp] theorem State.setPending_dt (s : State) (l : List Nat) : (s.setPending l).dt = s.dt := rfl
@[simp] theorem State.setPending_dpr (s : State) (l : List Nat) : (s.setPending l).dpr = s.dpr := rfl
@[simp] theorem State.setPending_ps (s : State) (l : List Nat) : (s.setPending l).ps = s.ps := rfl
@[simp] theorem State.setPending_run (s : State) (l : List Nat) : (s.setPending l).run = s.run := rfl
@[simp] theorem State.setPending_mem (s : State) (l : List Nat) : (s.setPending l).mem = s.mem := rfl
@[simp] theorem State.setPending_pending (s : State) (l : List Nat) : (s.setPending l).pending = l := rfl
@[simp] theorem State.setPending_inputs (s : State) (l : List Nat) : (s.setPending l).inputs = s.inputs := rfl
@[simp] theorem State.setPending_cfg (s : State) (l : List Nat) : (s.setPending l).cfg = s.cfg := rfl
@[simp] theorem State.setPending_free (s : State) (l : List Nat) : (s.setPending l).free = s.free := rfl
@[simp] theorem State.setPending_cycles (s : State) (l : List Nat) : (s.setPending l).cycles = s.cycles := rfl

@[simp] theorem State.setPs_a (s : State) (p : PS) : (s.setPs p).a = s.a := rfl
@[simp] theorem State.setPs_b (s : State) (p : PS) : (s.setPs p).b = s.b := rfl
@[simp] theorem State.setPs_x (s : State) (p : PS) : (s.setPs p).x = s.x := rfl
@[simp] theorem State.setPs_y (s : State) (p : PS) : (s.setPs p).y = s.y := rfl
@[simp] theorem State.setPs_sp (s : State) (p : PS) : (s.setPs p).sp = s.sp := rfl
@[simp] theorem State.setPs_pc (s : State) (p : PS) : (s.setPs p).pc = s.pc := rfl
@[simp] theorem State.setPs_pg (s : State) (p : PS) : (s.setPs p).pg = s.pg := rfl
@[simp] theorem State.setPs_dt (s : State) (p : PS) : (s.setPs p).dt = s.dt := rfl
@[simp] theorem State.setPs_dpr (s : State) (p : PS) : (s.setPs p).dpr = s.dpr := rfl
@[simp] theorem State.setPs_ps (s : State) (p : PS) : (s.setPs p).ps = p := rfl
@[simp] theorem State.setPs_run (s : State) (p : PS) : (s.setPs p).run = s.run := rfl
@[simp] theorem State.setPs_mem (s : State) (p : PS) : (s.setPs p).mem = s.mem := rfl
@[simp] theorem State.setPs_pending (s : State) (p : PS) : (s.setPs p).pending = s.pending := rfl
@[simp] theorem State.setPs_inputs (s : State) (p : PS) : (s.setPs p).inputs = s.inputs := rfl
@[simp] theorem State.setPs_cfg (s : State) (p : PS) : (s.setPs p).cfg = s.cfg := rfl
@[simp] theorem State.setPs_free (s : State) (p : PS) : (s.setPs p).free = s.free := rfl
@[simp] theorem State.setPs_cycles (s : State) (p : PS) : (s.setPs p).cycles = s.cycles := rfl

@[simp] theorem State.setRun_a (s : State) (r : RunState) : (s.setRun r).a = s.a := rfl
@[simp] theorem State.setRun_b (s : State) (r : RunState) : (s.setRun r).b = s.b := rfl
@[simp] theorem State.setRun_x (s : State) (r : RunState) : (s.setRun r).x = s.x := rfl
@[simp] theorem State.setRun_y (s : State) (r : RunState) : (s.setRun r).y = s.y := rfl
@[simp] theorem State.setRun_sp (s : State) (r : RunState) : (s.setRun r).sp = s.sp := rfl
@[simp] theorem State.setRun_pc (s : State) (r : RunState) : (s.setRun r).pc = s.pc := rfl
@[simp] theorem State.setRun_pg (s : State) (r : RunState) : (s.setRun r).pg = s.pg := rfl
@[simp] theorem State.setRun_dt (s : State) (r : RunState) : (s.setRun r).dt = s.dt := rfl
@[simp] theorem State.setRun_dpr (s : State) (r : RunState) : (s.setRun r).dpr = s.dpr := rfl
@[simp] theorem State.setRun_ps (s : State) (r : RunState) : (s.setRun r).ps = s.ps := rfl
@[simp] theorem State.setRun_run (s : State) (r : RunState) : (s.setRun r).run = r := rfl
@[simp] theorem State.setRun_mem (s : State) (r : RunState) : (s.setRun r).mem = s.mem := rfl
@[simp] theorem State.setRun_pending (s : State) (r : RunState) : (s.setRun r).pending = s.pending := rfl
@[simp] theorem State.setRun_inputs (s : State) (r : RunState) : (s.setRun r).inputs = s.inputs := rfl
@[simp] theorem State.setRun_cfg (s : State) (r : RunState) : (s.setRun r).cfg = s.cfg := rfl
@[simp] theorem State.setRun_free (s : State) (r : RunState) : (s.setRun r).free = s.free := rfl
@[simp] theorem State.setRun_cycles (s : State) (r : RunState) : (s.setRun r).cycles = s.cycles := rfl

@[simp] theorem State.goto_a (s : State) (t : Addr) : (s.goto t).a = s.a := rfl
@[simp] theorem State.goto_b (s : State) (t : Addr) : (s.goto t).b = s.b := rfl
@[simp] theorem State.goto_x (s : State) (t : Addr) : (s.goto t).x = s.x := rfl
@[simp] theorem State.goto_y (s : State) (t : Addr) : (s.goto t).y = s.y := rfl
@[simp] theorem State.goto_sp (s : State) (t : Addr) : (s.goto t).sp = s.sp := rfl
@[simp] theorem State.goto_pc (s : State) (t : Addr) : (s.goto t).pc = offsetOf t := rfl
@[simp] theorem State.goto_pg (s : State) (t : Addr) : (s.goto t).pg = bankOf t := rfl
@[simp] theorem State.goto_dt (s : State) (t : Addr) : (s.goto t).dt = s.dt := rfl
@[simp] theorem State.goto_dpr (s : State) (t : Addr) : (s.goto t).dpr = s.dpr := rfl
@[simp] theorem State.goto_ps (s : State) (t : Addr) : (s.goto t).ps = s.ps := rfl
@[simp] theorem State.goto_run (s : State) (t : Addr) : (s.goto t).run = s.run := rfl
@[simp] theorem State.goto_mem (s : State) (t : Addr) : (s.goto t).mem = s.mem := rfl
@[simp] theorem State.goto_pending (s : State) (t : Addr) : (s.goto t).pending = s.pending := rfl
@[simp] theorem State.goto_inputs (s : State) (t : Addr) : (s.goto t).inputs = s.inputs := rfl
@[simp] theorem State.goto_cfg (s : State) (t : Addr) : (s.goto t).cfg = s.cfg := rfl
@[simp] theorem State.goto_free (s : State) (t : Addr) : (s.goto t).free = s.free := rfl
@[simp] theorem State.goto_cycles (s : State) (t : Addr) : (s.goto t).cycles = s.cycles := rfl

@[simp] theorem State.setPc_a (s : State) (t : Word) : (s.setPc t).a = s.a := rfl
@[simp] theorem State.setPc_b (s : State) (t : Word) : (s.setPc t).b = s.b := rfl
@[simp] theorem State.setPc_x (s : State) (t : Word) : (s.setPc t).x = s.x := rfl
@[simp] theorem State.setPc_y (s : State) (t : Word) : (s.setPc t).y = s.y := rfl
@[simp] theorem State.setPc_sp (s : State) (t : Word) : (s.setPc t).sp = s.sp := rfl
@[simp] theorem State.setPc_pc (s : State) (t : Word) : (s.setPc t).pc = t := rfl
@[simp] theorem State.setPc_pg (s : State) (t : Word) : (s.setPc t).pg = s.pg := rfl
@[simp] theorem State.setPc_dt (s : State) (t : Word) : (s.setPc t).dt = s.dt := rfl
@[simp] theorem State.setPc_dpr (s : State) (t : Word) : (s.setPc t).dpr = s.dpr := rfl
@[simp] theorem State.setPc_ps (s : State) (t : Word) : (s.setPc t).ps = s.ps := rfl
@[simp] theorem State.setPc_run (s : State) (t : Word) : (s.setPc t).run = s.run := rfl
@[simp] theorem State.setPc_mem (s : State) (t : Word) : (s.setPc t).mem = s.mem := rfl
@[simp] theorem State.setPc_pending (s : State) (t : Word) : (s.setPc t).pending = s.pending := rfl
@[simp] theorem State.setPc_inputs (s : State) (t : Word) : (s.setPc t).inputs = s.inputs := rfl
@[simp] theorem State.setPc_cfg (s : State) (t : Word) : (s.setPc t).cfg = s.cfg := rfl
@[simp] theorem State.setPc_free (s : State) (t : Word) : (s.setPc t).free = s.free := rfl
@[simp] theorem State.setPc_cycles (s : State) (t : Word) : (s.setPc t).cycles = s.cycles := rfl

@[simp] theorem State.advance_a (s : State) (n : Nat) : (s.advance n).a = s.a := rfl
@[simp] theorem State.advance_b (s : State) (n : Nat) : (s.advance n).b = s.b := rfl
@[simp] theorem State.advance_x (s : State) (n : Nat) : (s.advance n).x = s.x := rfl
@[simp] theorem State.advance_y (s : State) (n : Nat) : (s.advance n).y = s.y := rfl
@[simp] theorem State.advance_sp (s : State) (n : Nat) : (s.advance n).sp = s.sp := rfl
@[simp] theorem State.advance_pc (s : State) (n : Nat) : (s.advance n).pc = offsetOf (s.nextPC n) := rfl
@[simp] theorem State.advance_pg (s : State) (n : Nat) : (s.advance n).pg = bankOf (s.nextPC n) := rfl
@[simp] theorem State.advance_dt (s : State) (n : Nat) : (s.advance n).dt = s.dt := rfl
@[simp] theorem State.advance_dpr (s : State) (n : Nat) : (s.advance n).dpr = s.dpr := rfl
@[simp] theorem State.advance_ps (s : State) (n : Nat) : (s.advance n).ps = s.ps := rfl
@[simp] theorem State.advance_run (s : State) (n : Nat) : (s.advance n).run = s.run := rfl
@[simp] theorem State.advance_mem (s : State) (n : Nat) : (s.advance n).mem = s.mem := rfl
@[simp] theorem State.advance_pending (s : State) (n : Nat) : (s.advance n).pending = s.pending := rfl
@[simp] theorem State.advance_inputs (s : State) (n : Nat) : (s.advance n).inputs = s.inputs := rfl
@[simp] theorem State.advance_cfg (s : State) (n : Nat) : (s.advance n).cfg = s.cfg := rfl
@[simp] theorem State.advance_free (s : State) (n : Nat) : (s.advance n).free = s.free := rfl
@[simp] theorem State.advance_cycles (s : State) (n : Nat) : (s.advance n).cycles = s.cycles := rfl

@[simp] theorem State.drew_a (s : State) : (s.drew).a = s.a := rfl
@[simp] theorem State.drew_b (s : State) : (s.drew).b = s.b := rfl
@[simp] theorem State.drew_x (s : State) : (s.drew).x = s.x := rfl
@[simp] theorem State.drew_y (s : State) : (s.drew).y = s.y := rfl
@[simp] theorem State.drew_sp (s : State) : (s.drew).sp = s.sp := rfl
@[simp] theorem State.drew_pc (s : State) : (s.drew).pc = s.pc := rfl
@[simp] theorem State.drew_pg (s : State) : (s.drew).pg = s.pg := rfl
@[simp] theorem State.drew_dt (s : State) : (s.drew).dt = s.dt := rfl
@[simp] theorem State.drew_dpr (s : State) : (s.drew).dpr = s.dpr := rfl
@[simp] theorem State.drew_ps (s : State) : (s.drew).ps = s.ps := rfl
@[simp] theorem State.drew_run (s : State) : (s.drew).run = s.run := rfl
@[simp] theorem State.drew_mem (s : State) : (s.drew).mem = s.mem := rfl
@[simp] theorem State.drew_pending (s : State) : (s.drew).pending = s.pending := rfl
@[simp] theorem State.drew_inputs (s : State) : (s.drew).inputs = s.inputs := rfl
@[simp] theorem State.drew_cfg (s : State) : (s.drew).cfg = s.cfg := rfl
@[simp] theorem State.drew_free (s : State) : (s.drew).free = s.free + 1 := rfl
@[simp] theorem State.drew_cycles (s : State) : (s.drew).cycles = s.cycles := rfl

@[simp] theorem State.setNZ_a (s : State) (w : Width) (v : Word) : (s.setNZ w v).a = s.a := rfl
@[simp] theorem State.setNZ_b (s : State) (w : Width) (v : Word) : (s.setNZ w v).b = s.b := rfl
@[simp] theorem State.setNZ_x (s : State) (w : Width) (v : Word) : (s.setNZ w v).x = s.x := rfl
@[simp] theorem State.setNZ_y (s : State) (w : Width) (v : Word) : (s.setNZ w v).y = s.y := rfl
@[simp] theorem State.setNZ_sp (s : State) (w : Width) (v : Word) : (s.setNZ w v).sp = s.sp := rfl
@[simp] theorem State.setNZ_pc (s : State) (w : Width) (v : Word) : (s.setNZ w v).pc = s.pc := rfl
@[simp] theorem State.setNZ_pg (s : State) (w : Width) (v : Word) : (s.setNZ w v).pg = s.pg := rfl
@[simp] theorem State.setNZ_dt (s : State) (w : Width) (v : Word) : (s.setNZ w v).dt = s.dt := rfl
@[simp] theorem State.setNZ_dpr (s : State) (w : Width) (v : Word) : (s.setNZ w v).dpr = s.dpr := rfl
@[simp] theorem State.setNZ_ps (s : State) (w : Width) (v : Word) : (s.setNZ w v).ps = s.ps.withNZ w v := rfl
@[simp] theorem State.setNZ_run (s : State) (w : Width) (v : Word) : (s.setNZ w v).run = s.run := rfl
@[simp] theorem State.setNZ_mem (s : State) (w : Width) (v : Word) : (s.setNZ w v).mem = s.mem := rfl
@[simp] theorem State.setNZ_pending (s : State) (w : Width) (v : Word) : (s.setNZ w v).pending = s.pending := rfl
@[simp] theorem State.setNZ_inputs (s : State) (w : Width) (v : Word) : (s.setNZ w v).inputs = s.inputs := rfl
@[simp] theorem State.setNZ_cfg (s : State) (w : Width) (v : Word) : (s.setNZ w v).cfg = s.cfg := rfl
@[simp] theorem State.setNZ_free (s : State) (w : Width) (v : Word) : (s.setNZ w v).free = s.free := rfl
@[simp] theorem State.setNZ_cycles (s : State) (w : Width) (v : Word) : (s.setNZ w v).cycles = s.cycles := rfl

@[simp] theorem State.setAcc_a_a (s : State) (w : Width) (v : Word) : (s.setAcc .a w v).a = mergeLow w s.a v := rfl
@[simp] theorem State.setAcc_a_b (s : State) (w : Width) (v : Word) : (s.setAcc .a w v).b = s.b := rfl
@[simp] theorem State.setAcc_b_a (s : State) (w : Width) (v : Word) : (s.setAcc .b w v).a = s.a := rfl
@[simp] theorem State.setAcc_b_b (s : State) (w : Width) (v : Word) : (s.setAcc .b w v).b = mergeLow w s.b v := rfl
@[simp] theorem State.setAcc_x (s : State) (r : Acc) (w : Width) (v : Word) : (s.setAcc r w v).x = s.x := by
  cases r <;> rfl
@[simp] theorem State.setAcc_y (s : State) (r : Acc) (w : Width) (v : Word) : (s.setAcc r w v).y = s.y := by
  cases r <;> rfl
@[simp] theorem State.setAcc_sp (s : State) (r : Acc) (w : Width) (v : Word) : (s.setAcc r w v).sp = s.sp := by
  cases r <;> rfl
@[simp] theorem State.setAcc_pc (s : State) (r : Acc) (w : Width) (v : Word) : (s.setAcc r w v).pc = s.pc := by
  cases r <;> rfl
@[simp] theorem State.setAcc_pg (s : State) (r : Acc) (w : Width) (v : Word) : (s.setAcc r w v).pg = s.pg := by
  cases r <;> rfl
@[simp] theorem State.setAcc_dt (s : State) (r : Acc) (w : Width) (v : Word) : (s.setAcc r w v).dt = s.dt := by
  cases r <;> rfl
@[simp] theorem State.setAcc_dpr (s : State) (r : Acc) (w : Width) (v : Word) : (s.setAcc r w v).dpr = s.dpr := by
  cases r <;> rfl
@[simp] theorem State.setAcc_ps (s : State) (r : Acc) (w : Width) (v : Word) : (s.setAcc r w v).ps = s.ps := by
  cases r <;> rfl
@[simp] theorem State.setAcc_run (s : State) (r : Acc) (w : Width) (v : Word) : (s.setAcc r w v).run = s.run := by
  cases r <;> rfl
@[simp] theorem State.setAcc_mem (s : State) (r : Acc) (w : Width) (v : Word) : (s.setAcc r w v).mem = s.mem := by
  cases r <;> rfl
@[simp] theorem State.setAcc_pending (s : State) (r : Acc) (w : Width) (v : Word) : (s.setAcc r w v).pending = s.pending := by
  cases r <;> rfl
@[simp] theorem State.setAcc_inputs (s : State) (r : Acc) (w : Width) (v : Word) : (s.setAcc r w v).inputs = s.inputs := by
  cases r <;> rfl
@[simp] theorem State.setAcc_cfg (s : State) (r : Acc) (w : Width) (v : Word) : (s.setAcc r w v).cfg = s.cfg := by
  cases r <;> rfl
@[simp] theorem State.setAcc_free (s : State) (r : Acc) (w : Width) (v : Word) : (s.setAcc r w v).free = s.free := by
  cases r <;> rfl
@[simp] theorem State.setAcc_cycles (s : State) (r : Acc) (w : Width) (v : Word) : (s.setAcc r w v).cycles = s.cycles := by
  cases r <;> rfl

@[simp] theorem State.acc_a (s : State) : s.acc .a = s.a := rfl
@[simp] theorem State.acc_b (s : State) : s.acc .b = s.b := rfl

@[simp] theorem State.setAcc_acc (s : State) (r : Acc) (w : Width) (v : Word) :
    (s.setAcc r w v).acc r = mergeLow w (s.acc r) v := by
  cases r <;> rfl

theorem State.setAcc_acc_ne (s : State) (r q : Acc) (w : Width) (v : Word) (h : q ≠ r) :
    (s.setAcc r w v).acc q = s.acc q := by
  cases r <;> cases q <;> first | rfl | exact absurd rfl h

@[simp] theorem State.setX_acc (s : State) (w : Width) (v : Word) (q : Acc) : (s.setX w v).acc q = s.acc q := by
  cases q <;> rfl
@[simp] theorem State.setY_acc (s : State) (w : Width) (v : Word) (q : Acc) : (s.setY w v).acc q = s.acc q := by
  cases q <;> rfl
@[simp] theorem State.setSp_acc (s : State) (v : Word) (q : Acc) : (s.setSp v).acc q = s.acc q := by
  cases q <;> rfl
@[simp] theorem State.setDpr_acc (s : State) (v : Word) (q : Acc) : (s.setDpr v).acc q = s.acc q := by
  cases q <;> rfl
@[simp] theorem State.setDt_acc (s : State) (v : Byte) (q : Acc) : (s.setDt v).acc q = s.acc q := by
  cases q <;> rfl
@[simp] theorem State.setPg_acc (s : State) (v : Byte) (q : Acc) : (s.setPg v).acc q = s.acc q := by
  cases q <;> rfl
@[simp] theorem State.setMem_acc (s : State) (m : Memory) (q : Acc) : (s.setMem m).acc q = s.acc q := by
  cases q <;> rfl
@[simp] theorem State.setPending_acc (s : State) (l : List Nat) (q : Acc) : (s.setPending l).acc q = s.acc q := by
  cases q <;> rfl
@[simp] theorem State.setPs_acc (s : State) (p : PS) (q : Acc) : (s.setPs p).acc q = s.acc q := by
  cases q <;> rfl
@[simp] theorem State.setRun_acc (s : State) (r : RunState) (q : Acc) : (s.setRun r).acc q = s.acc q := by
  cases q <;> rfl
@[simp] theorem State.goto_acc (s : State) (t : Addr) (q : Acc) : (s.goto t).acc q = s.acc q := by
  cases q <;> rfl
@[simp] theorem State.setPc_acc (s : State) (t : Word) (q : Acc) : (s.setPc t).acc q = s.acc q := by
  cases q <;> rfl
@[simp] theorem State.advance_acc (s : State) (n : Nat) (q : Acc) : (s.advance n).acc q = s.acc q := by
  cases q <;> rfl
@[simp] theorem State.drew_acc (s : State) (q : Acc) : (s.drew).acc q = s.acc q := by
  cases q <;> rfl
@[simp] theorem State.setNZ_acc (s : State) (w : Width) (v : Word) (q : Acc) : (s.setNZ w v).acc q = s.acc q := by
  cases q <;> rfl

@[simp] theorem State.setX_kindAt (s : State) (w : Width) (v : Word) (k : Addr) : (s.setX w v).kindAt k = s.kindAt k := rfl
@[simp] theorem State.setX_readByte (s : State) (w : Width) (v : Word) (k : Addr) : (s.setX w v).readByte k = s.readByte k := rfl
@[simp] theorem State.setX_mw (s : State) (w : Width) (v : Word) : (s.setX w v).mw = s.mw := rfl
@[simp] theorem State.setX_xw (s : State) (w : Width) (v : Word) : (s.setX w v).xw = s.xw := rfl
@[simp] theorem State.setY_kindAt (s : State) (w : Width) (v : Word) (k : Addr) : (s.setY w v).kindAt k = s.kindAt k := rfl
@[simp] theorem State.setY_readByte (s : State) (w : Width) (v : Word) (k : Addr) : (s.setY w v).readByte k = s.readByte k := rfl
@[simp] theorem State.setY_mw (s : State) (w : Width) (v : Word) : (s.setY w v).mw = s.mw := rfl
@[simp] theorem State.setY_xw (s : State) (w : Width) (v : Word) : (s.setY w v).xw = s.xw := rfl
@[simp] theorem State.setSp_kindAt (s : State) (v : Word) (k : Addr) : (s.setSp v).kindAt k = s.kindAt k := rfl
@[simp] theorem State.setSp_readByte (s : State) (v : Word) (k : Addr) : (s.setSp v).readByte k = s.readByte k := rfl
@[simp] theorem State.setSp_mw (s : State) (v : Word) : (s.setSp v).mw = s.mw := rfl
@[simp] theorem State.setSp_xw (s : State) (v : Word) : (s.setSp v).xw = s.xw := rfl
@[simp] theorem State.setDpr_kindAt (s : State) (v : Word) (k : Addr) : (s.setDpr v).kindAt k = s.kindAt k := rfl
@[simp] theorem State.setDpr_readByte (s : State) (v : Word) (k : Addr) : (s.setDpr v).readByte k = s.readByte k := rfl
@[simp] theorem State.setDpr_mw (s : State) (v : Word) : (s.setDpr v).mw = s.mw := rfl
@[simp] theorem State.setDpr_xw (s : State) (v : Word) : (s.setDpr v).xw = s.xw := rfl
@[simp] theorem State.setDt_kindAt (s : State) (v : Byte) (k : Addr) : (s.setDt v).kindAt k = s.kindAt k := rfl
@[simp] theorem State.setDt_readByte (s : State) (v : Byte) (k : Addr) : (s.setDt v).readByte k = s.readByte k := rfl
@[simp] theorem State.setDt_mw (s : State) (v : Byte) : (s.setDt v).mw = s.mw := rfl
@[simp] theorem State.setDt_xw (s : State) (v : Byte) : (s.setDt v).xw = s.xw := rfl
@[simp] theorem State.setPg_kindAt (s : State) (v : Byte) (k : Addr) : (s.setPg v).kindAt k = s.kindAt k := rfl
@[simp] theorem State.setPg_readByte (s : State) (v : Byte) (k : Addr) : (s.setPg v).readByte k = s.readByte k := rfl
@[simp] theorem State.setPg_mw (s : State) (v : Byte) : (s.setPg v).mw = s.mw := rfl
@[simp] theorem State.setPg_xw (s : State) (v : Byte) : (s.setPg v).xw = s.xw := rfl
@[simp] theorem State.setMem_kindAt (s : State) (m : Memory) (k : Addr) : (s.setMem m).kindAt k = s.kindAt k := rfl
@[simp] theorem State.setMem_mw (s : State) (m : Memory) : (s.setMem m).mw = s.mw := rfl
@[simp] theorem State.setMem_xw (s : State) (m : Memory) : (s.setMem m).xw = s.xw := rfl
@[simp] theorem State.setPending_kindAt (s : State) (l : List Nat) (k : Addr) : (s.setPending l).kindAt k = s.kindAt k := rfl
@[simp] theorem State.setPending_readByte (s : State) (l : List Nat) (k : Addr) : (s.setPending l).readByte k = s.readByte k := rfl
@[simp] theorem State.setPending_mw (s : State) (l : List Nat) : (s.setPending l).mw = s.mw := rfl
@[simp] theorem State.setPending_xw (s : State) (l : List Nat) : (s.setPending l).xw = s.xw := rfl
@[simp] theorem State.setPs_kindAt (s : State) (p : PS) (k : Addr) : (s.setPs p).kindAt k = s.kindAt k := rfl
@[simp] theorem State.setPs_readByte (s : State) (p : PS) (k : Addr) : (s.setPs p).readByte k = s.readByte k := rfl
@[simp] theorem State.setRun_kindAt (s : State) (r : RunState) (k : Addr) : (s.setRun r).kindAt k = s.kindAt k := rfl
@[simp] theorem State.setRun_readByte (s : State) (r : RunState) (k : Addr) : (s.setRun r).readByte k = s.readByte k := rfl
@[simp] theorem State.setRun_mw (s : State) (r : RunState) : (s.setRun r).mw = s.mw := rfl
@[simp] theorem State.setRun_xw (s : State) (r : RunState) : (s.setRun r).xw = s.xw := rfl
@[simp] theorem State.goto_kindAt (s : State) (t : Addr) (k : Addr) : (s.goto t).kindAt k = s.kindAt k := rfl
@[simp] theorem State.goto_readByte (s : State) (t : Addr) (k : Addr) : (s.goto t).readByte k = s.readByte k := rfl
@[simp] theorem State.goto_mw (s : State) (t : Addr) : (s.goto t).mw = s.mw := rfl
@[simp] theorem State.goto_xw (s : State) (t : Addr) : (s.goto t).xw = s.xw := rfl
@[simp] theorem State.setPc_kindAt (s : State) (t : Word) (k : Addr) : (s.setPc t).kindAt k = s.kindAt k := rfl
@[simp] theorem State.setPc_readByte (s : State) (t : Word) (k : Addr) : (s.setPc t).readByte k = s.readByte k := rfl
@[simp] theorem State.setPc_mw (s : State) (t : Word) : (s.setPc t).mw = s.mw := rfl
@[simp] theorem State.setPc_xw (s : State) (t : Word) : (s.setPc t).xw = s.xw := rfl
@[simp] theorem State.advance_kindAt (s : State) (n : Nat) (k : Addr) : (s.advance n).kindAt k = s.kindAt k := rfl
@[simp] theorem State.advance_readByte (s : State) (n : Nat) (k : Addr) : (s.advance n).readByte k = s.readByte k := rfl
@[simp] theorem State.advance_mw (s : State) (n : Nat) : (s.advance n).mw = s.mw := rfl
@[simp] theorem State.advance_xw (s : State) (n : Nat) : (s.advance n).xw = s.xw := rfl
@[simp] theorem State.drew_kindAt (s : State) (k : Addr) : (s.drew).kindAt k = s.kindAt k := rfl
@[simp] theorem State.drew_readByte (s : State) (k : Addr) : (s.drew).readByte k = s.readByte k := rfl
@[simp] theorem State.drew_mw (s : State) : (s.drew).mw = s.mw := rfl
@[simp] theorem State.drew_xw (s : State) : (s.drew).xw = s.xw := rfl
@[simp] theorem State.setNZ_kindAt (s : State) (w : Width) (v : Word) (k : Addr) : (s.setNZ w v).kindAt k = s.kindAt k := rfl
@[simp] theorem State.setNZ_readByte (s : State) (w : Width) (v : Word) (k : Addr) : (s.setNZ w v).readByte k = s.readByte k := rfl
@[simp] theorem State.setAcc_kindAt (s : State) (r : Acc) (w : Width) (v : Word) (k : Addr) :
    (s.setAcc r w v).kindAt k = s.kindAt k := by
  cases r <;> rfl
@[simp] theorem State.setAcc_readByte (s : State) (r : Acc) (w : Width) (v : Word) (k : Addr) :
    (s.setAcc r w v).readByte k = s.readByte k := by
  cases r <;> rfl
@[simp] theorem State.setAcc_mw (s : State) (r : Acc) (w : Width) (v : Word) : (s.setAcc r w v).mw = s.mw := by
  cases r <;> rfl
@[simp] theorem State.setAcc_xw (s : State) (r : Acc) (w : Width) (v : Word) : (s.setAcc r w v).xw = s.xw := by
  cases r <;> rfl

/-- The next program address, read back as one address. -/
@[simp] theorem addrOf_bankOf_offsetOf (a : Addr) : addrOf (bankOf a) (offsetOf a) = a := by
  unfold addrOf bankOf offsetOf
  apply BitVec.eq_of_getLsbD_eq
  intro i hi
  simp only [BitVec.getLsbD_append, BitVec.getLsbD_extractLsb']
  by_cases h : i < 16
  · simp [h]
  · have h2 : 16 + (i - 16) = i := by omega
    have h3 : i - 16 < 8 := by omega
    simp [h, h2, h3]

@[simp] theorem bankOf_addrOf (b : Byte) (o : Word) : bankOf (addrOf b o) = b := by
  unfold addrOf bankOf
  apply BitVec.eq_of_getLsbD_eq
  intro i hi
  have h : ¬ 16 + i < 16 := by omega
  have h2 : 16 + i - 16 = i := by omega
  simp only [BitVec.getLsbD_extractLsb', BitVec.getLsbD_append, hi, h, h2, decide_true, Bool.true_and, if_false]

@[simp] theorem offsetOf_addrOf (b : Byte) (o : Word) : offsetOf (addrOf b o) = o := by
  unfold addrOf offsetOf
  apply BitVec.eq_of_getLsbD_eq
  intro i hi
  have h2 : 0 + i = i := by omega
  simp only [BitVec.getLsbD_extractLsb', BitVec.getLsbD_append, hi, h2, decide_true, Bool.true_and, if_true]

@[simp] theorem State.goto_pcAddr (s : State) (t : Addr) : (s.goto t).pcAddr = t := addrOf_bankOf_offsetOf t

@[simp] theorem State.advance_pcAddr (s : State) (n : Nat) : (s.advance n).pcAddr = s.nextPC n :=
  addrOf_bankOf_offsetOf _

/-! Bytes of a word -/

@[simp] theorem lowByte_wordOf (h l : Byte) : lowByte (wordOf h l) = l := by
  unfold lowByte wordOf
  apply BitVec.eq_of_getLsbD_eq
  intro i hi
  have h2 : 0 + i = i := by omega
  simp only [BitVec.getLsbD_extractLsb', BitVec.getLsbD_append, hi, h2, decide_true, Bool.true_and, if_true]

@[simp] theorem highByte_wordOf (h l : Byte) : highByte (wordOf h l) = h := by
  unfold highByte wordOf
  apply BitVec.eq_of_getLsbD_eq
  intro i hi
  have h : ¬ 8 + i < 8 := by omega
  have h2 : 8 + i - 8 = i := by omega
  simp only [BitVec.getLsbD_extractLsb', BitVec.getLsbD_append, hi, h, h2, decide_true, Bool.true_and, if_false]

@[simp] theorem wordOf_highByte_lowByte (v : Word) : wordOf (highByte v) (lowByte v) = v := by
  unfold wordOf highByte lowByte
  apply BitVec.eq_of_getLsbD_eq
  intro i hi
  simp only [BitVec.getLsbD_append, BitVec.getLsbD_extractLsb']
  by_cases h : i < 8
  · simp [h]
  · have h2 : 8 + (i - 8) = i := by omega
    have h3 : i - 8 < 8 := by omega
    simp [h, h2, h3]

@[simp] theorem lowByte_wordOfByte (v : Byte) : lowByte (wordOfByte v) = v := by
  unfold lowByte wordOfByte
  apply BitVec.eq_of_getLsbD_eq
  intro i hi
  have h : i < 16 := by omega
  simp [hi, h]

/-! PS as bytes -/

/-- Pulling what a push of PS stored gives PS back (R28: PHP then PLP is the identity). -/
@[simp] theorem PS.ofBytes_high_low (p : PS) : PS.ofBytes p.high p.low = p := by
  obtain ⟨n, v, m, x, d, i, z, c, ipl⟩ := p
  have e : ∀ n v m x d i z c : Bool, ∀ b : Byte,
      b = BitVec.ofBool n ++ BitVec.ofBool v ++ BitVec.ofBool m ++ BitVec.ofBool x ++
        BitVec.ofBool d ++ BitVec.ofBool i ++ BitVec.ofBool z ++ BitVec.ofBool c →
      b.getLsbD 7 = n ∧ b.getLsbD 6 = v ∧ b.getLsbD 5 = m ∧ b.getLsbD 4 = x ∧
        b.getLsbD 3 = d ∧ b.getLsbD 2 = i ∧ b.getLsbD 1 = z ∧ b.getLsbD 0 = c := by
    intro n v m x d i z c b hb
    subst hb
    revert n v m x d i z c
    decide
  obtain ⟨h7, h6, h5, h4, h3, h2, h1, h0⟩ := e n v m x d i z c _ rfl
  have h : (BitVec.setWidth 8 ipl).setWidth 3 = ipl := by
    apply BitVec.eq_of_toNat_eq
    have := ipl.isLt
    simp only [BitVec.toNat_setWidth]
    omega
  simp only [PS.ofBytes, PS.high, PS.low, h, h0, h1, h2, h3, h4, h5, h6, h7]

@[simp] theorem PS.toWord_highByte (p : PS) : highByte p.toWord = p.high := highByte_wordOf _ _

@[simp] theorem PS.toWord_lowByte (p : PS) : lowByte p.toWord = p.low := lowByte_wordOf _ _

end Sys2Proof.Machine
end

