-- ==== Sys2Proof/Laws/Ops.lean ====
section
/-! SUPPORT. What each shared operation does, said once: reads, stores, pushes, pulls, and the end of an instruction. -/

namespace Sys2Proof.Machine

@[simp] theorem toNat_one_word : (1 : Word).toNat = 1 := rfl

@[simp] theorem toNat_one_addr : (1 : Addr).toNat = 1 := rfl

/-! Sequencing -/

/-- A sequence answers a value exactly when its parts do. -/
theorem res_bind_ok {α β : Type} (x : Res α) (f : α → Res β) (b : β) :
    (x >>= f) = .ok b ↔ ∃ a, x = .ok a ∧ f a = .ok b := by
  cases x with
  | error e =>
    constructor
    · intro h
      cases h
    · rintro ⟨_, h, _⟩
      cases h
  | ok a =>
    constructor
    · exact fun h => ⟨a, rfl, h⟩
    · rintro ⟨_, h, k⟩
      cases h
      exact k

@[simp] theorem res_ok_bind {α β : Type} (a : α) (f : α → Res β) : ((Except.ok a : Res α) >>= f) = f a := rfl

@[simp] theorem res_error_bind {α β : Type} (e : Refusal) (f : α → Res β) :
    ((Except.error e : Res α) >>= f) = .error e := rfl

@[simp] theorem res_pure {α : Type} (a : α) : (pure a : Res α) = .ok a := rfl

/-- An instruction ends in `t` exactly when its effect is `t` and the processor mode allows its banks. -/
theorem complete_next (r : Res State) (t : State) :
    complete r = .next t ↔ r = .ok t ∧ banksLegal t.cfg t.pg t.dt = true := by
  cases r with
  | error e =>
    constructor
    · intro h
      cases h
    · rintro ⟨h, _⟩
      cases h
  | ok s =>
    simp only [complete]
    constructor
    · intro h
      split at h
      · next hb =>
        obtain rfl := Host.Outcome.next.inj h
        exact ⟨rfl, hb⟩
      · cases h
    · rintro ⟨h, hb⟩
      obtain rfl := Except.ok.inj h
      exact if_pos hb

theorem complete_ok (t : State) (h : banksLegal t.cfg t.pg t.dt = true) : complete (.ok t) = .next t := if_pos h

@[simp] theorem complete_error (e : Refusal) : complete (.error e) = .refused e := rfl

/-! Reading -/

theorem State.readByte_ok (s : State) (a : Addr) (h : s.canReadByte a = true) : s.readByte a = .ok (s.mem.get a) := by
  unfold State.canReadByte at h
  unfold State.readByte
  cases hk : s.kindAt a <;> simp_all

theorem State.canReadByte_of_ok (s : State) (a : Addr) (v : Byte) (h : s.readByte a = .ok v) :
    s.canReadByte a = true ∧ v = s.mem.get a := by
  unfold State.readByte at h
  unfold State.canReadByte
  cases hk : s.kindAt a <;> simp_all

theorem State.readWord_ok (s : State) (a : Addr) (h : s.canRead 2 a = true) :
    s.readWord a = .ok (wordOf (s.mem.get (a + 1)) (s.mem.get a)) := by
  simp only [State.canRead, Bool.and_eq_true, Bool.and_true] at h
  unfold State.readWord
  rw [s.readByte_ok a h.1, s.readByte_ok (a + 1) h.2]
  rfl

theorem State.readLong_ok (s : State) (a : Addr) (h : s.canRead 3 a = true) :
    s.readLong a = .ok (addrOf (s.mem.get (a + 2)) (wordOf (s.mem.get (a + 1)) (s.mem.get a))) := by
  simp only [State.canRead, Bool.and_eq_true, Bool.and_true] at h
  have e : a + 1 + 1 = a + 2 := by rw [BitVec.add_assoc]; rfl
  rw [e] at h
  unfold State.readLong
  rw [s.readByte_ok a h.1, s.readByte_ok (a + 1) h.2.1, s.readByte_ok (a + 2) h.2.2]
  rfl

/-- `hi : lo` as a number. -/
theorem wordOf_toNat (hi lo : Byte) : (wordOf hi lo).toNat = lo.toNat + 256 * hi.toNat := by
  have h1 := hi.isLt
  have h2 := lo.isLt
  unfold wordOf
  rw [BitVec.toNat_append, Nat.shiftLeft_eq, Nat.mul_comm, ← Nat.two_pow_add_eq_or_of_lt (by omega : lo.toNat < 2 ^ 8)]
  omega

theorem addrOf_toNat (b : Byte) (o : Word) : (addrOf b o).toNat = o.toNat + 65536 * b.toNat := by
  have h1 := b.isLt
  have h2 := o.isLt
  unfold addrOf
  rw [BitVec.toNat_append, Nat.shiftLeft_eq, Nat.mul_comm, ← Nat.two_pow_add_eq_or_of_lt (by omega : o.toNat < 2 ^ 16)]
  omega

theorem State.number_byte (s : State) (a : Addr) : s.number 1 a = (s.mem.get a).toNat := rfl

theorem State.number_word (s : State) (a : Addr) :
    s.number 2 a = (wordOf (s.mem.get (a + 1)) (s.mem.get a)).toNat := by
  rw [wordOf_toNat]
  rfl

/-- What a datum of width `w` reads as. -/
theorem State.readData_ok (s : State) (w : Width) (a : Addr) (h : s.canRead (bytesOf w) a = true) :
    ∃ v, s.readData w a = .ok v ∧ v.toNat = s.number (bytesOf w) a := by
  cases w with
  | w8 =>
    have h1 : s.canReadByte a = true := by simpa [State.canRead, bytesOf] using h
    refine ⟨wordOfByte (s.mem.get a), by simp only [State.readData, s.readByte_ok a h1]; rfl, ?_⟩
    have := (s.mem.get a).isLt
    simp only [wordOfByte, BitVec.toNat_setWidth, bytesOf, State.number_byte]
    omega
  | w16 => exact ⟨_, s.readWord_ok a h, (s.number_word a).symm⟩

/-! Writing: a byte store changes memory alone -/

@[simp] theorem State.setMem_inPrefetch (s : State) (m : Memory) (n : Nat) (a : Addr) :
    (s.setMem m).inPrefetch n a = s.inPrefetch n a := rfl

@[simp] theorem State.setMem_canStoreByte (s : State) (m : Memory) (n : Nat) (a : Addr) :
    (s.setMem m).canStoreByte n a = s.canStoreByte n a := rfl

theorem State.storeByte_iff (s t : State) (n : Nat) (a : Addr) (v : Byte) :
    s.storeByte (some n) a v = .ok t ↔ s.canStoreByte n a = true ∧ t = s.setMem (s.mem.set a v) := by
  have e : s.storeByte (some n) a v = if s.inPrefetch n a then .error (.storeIntoPrefetched a) else s.writeByte a v := rfl
  rw [e]
  unfold State.canStoreByte State.writeByte
  cases s.inPrefetch n a <;> cases s.kindAt a
  · exact ⟨fun h => ⟨rfl, (Except.ok.inj h).symm⟩, fun h => congrArg Except.ok h.2.symm⟩
  all_goals
    constructor
    · intro h
      cases h
    · rintro ⟨h, _⟩
      cases h

theorem State.storeByte_ok (s : State) (n : Nat) (a : Addr) (v : Byte) (h : s.canStoreByte n a = true) :
    s.storeByte (some n) a v = .ok (s.setMem (s.mem.set a v)) :=
  (s.storeByte_iff _ n a v).2 ⟨h, rfl⟩

/-- A byte store by no instruction changes memory alone. -/
theorem State.storeByte_none (s t : State) (a : Addr) (v : Byte) (h : s.storeByte none a v = .ok t) :
    t = s.setMem (s.mem.set a v) := by
  unfold State.storeByte State.writeByte at h
  cases hk : s.kindAt a <;> simp_all

/-- Any byte store that succeeds changes memory alone, by one write. -/
theorem State.storeByte_eq (s t : State) (len : Option Nat) (a : Addr) (v : Byte) (h : s.storeByte len a v = .ok t) :
    t = s.setMem (s.mem.set a v) := by
  cases len with
  | none => exact s.storeByte_none t a v h
  | some n => exact ((s.storeByte_iff t n a v).1 h).2

theorem ofNat_lowByte (v : Word) : BitVec.ofNat 8 v.toNat = lowByte v := by
  apply BitVec.eq_of_toNat_eq
  simp [lowByte]

theorem ofNat_highByte (v : Word) : BitVec.ofNat 8 (v.toNat / 256) = highByte v := by
  apply BitVec.eq_of_toNat_eq
  simp [highByte, Nat.shiftRight_eq_div_pow]

/-- A store of `w` bits: where it can be made it is made, memory alone changes and stays canonical, and exactly the bytes of
the datum read differently. -/
theorem State.storeData_ok (s : State) (n : Nat) (w : Width) (a : Addr) (v : Word) (h : s.canStore n w a = true)
    (hw : s.mem.wf = true) :
    ∃ m : Memory, s.storeData n w a v = .ok (s.setMem m) ∧ m.wf = true ∧ stores w a v.toNat s (s.setMem m) := by
  cases w with
  | w8 =>
    refine ⟨s.mem.set a (lowByte v), s.storeByte_ok n a _ h, s.mem.set_wf a _ hw, ?_⟩
    intro b
    rw [State.setMem_mem, Memory.get_set _ _ _ _ hw, ofNat_lowByte]
    simp
  | w16 =>
    simp only [State.canStore, Bool.and_eq_true] at h
    have hne : a + 1 ≠ a := by
      intro e
      have := congrArg BitVec.toNat e
      rw [BitVec.toNat_add, toNat_one_addr] at this
      have := a.isLt
      omega
    refine ⟨(s.mem.set a (lowByte v)).set (a + 1) (highByte v), ?_, Memory.set_wf _ _ _ (s.mem.set_wf a _ hw), ?_⟩
    · simp only [State.storeData, s.storeByte_ok n a _ h.1, res_ok_bind]
      exact State.storeByte_ok (s.setMem (s.mem.set a (lowByte v))) n (a + 1) _ h.2
    · intro b
      rw [State.setMem_mem, Memory.get_set _ _ _ _ (s.mem.set_wf a _ hw), Memory.get_set _ _ _ _ hw, ofNat_lowByte, ofNat_highByte]
      by_cases hb : b = a
      · rw [if_neg (by rw [hb]; exact Ne.symm hne), if_pos hb, if_pos hb]
      · simp [hb]

/-- Any store of `w` bits that succeeds changes memory alone. -/
theorem State.storeData_eq (s t : State) (n : Nat) (w : Width) (a : Addr) (v : Word) (h : s.storeData n w a v = .ok t) :
    ∃ m : Memory, t = s.setMem m ∧ (s.mem.wf = true → m.wf = true) := by
  cases w with
  | w8 => exact ⟨_, s.storeByte_eq t (some n) a (lowByte v) h, s.mem.set_wf a _⟩
  | w16 =>
    obtain ⟨u, hu, ht⟩ := (res_bind_ok _ _ _).1 h
    obtain rfl := s.storeByte_eq u _ a _ hu
    refine ⟨_, State.storeByte_eq (s.setMem (s.mem.set a (lowByte v))) t (some n) (a + 1) (highByte v) ht, fun hw => ?_⟩
    exact Memory.set_wf _ _ _ (s.mem.set_wf a _ hw)

/-! Pushing: memory and S change -/

/-- Memory after pushing `bytes` from `sp` on. -/
def memPushed : List Byte → Word → Memory → Memory
  | [], _, m => m
  | v :: rest, sp, m => memPushed rest (sp - 1) (m.set (addrOf 0 sp) v)

/-- The state after pushing `bytes`. -/
def State.pushed (s : State) (bytes : List Byte) : State :=
  (s.setMem (memPushed bytes s.sp s.mem)).setSp (s.sp - BitVec.ofNat 16 bytes.length)

@[simp] theorem State.pushed_a (s : State) (l : List Byte) : (s.pushed l).a = s.a := rfl
@[simp] theorem State.pushed_b (s : State) (l : List Byte) : (s.pushed l).b = s.b := rfl
@[simp] theorem State.pushed_x (s : State) (l : List Byte) : (s.pushed l).x = s.x := rfl
@[simp] theorem State.pushed_y (s : State) (l : List Byte) : (s.pushed l).y = s.y := rfl
@[simp] theorem State.pushed_sp (s : State) (l : List Byte) : (s.pushed l).sp = s.sp - BitVec.ofNat 16 l.length := rfl
@[simp] theorem State.pushed_pc (s : State) (l : List Byte) : (s.pushed l).pc = s.pc := rfl
@[simp] theorem State.pushed_pg (s : State) (l : List Byte) : (s.pushed l).pg = s.pg := rfl
@[simp] theorem State.pushed_dt (s : State) (l : List Byte) : (s.pushed l).dt = s.dt := rfl
@[simp] theorem State.pushed_dpr (s : State) (l : List Byte) : (s.pushed l).dpr = s.dpr := rfl
@[simp] theorem State.pushed_ps (s : State) (l : List Byte) : (s.pushed l).ps = s.ps := rfl
@[simp] theorem State.pushed_run (s : State) (l : List Byte) : (s.pushed l).run = s.run := rfl
@[simp] theorem State.pushed_mem (s : State) (l : List Byte) : (s.pushed l).mem = memPushed l s.sp s.mem := rfl
@[simp] theorem State.pushed_pending (s : State) (l : List Byte) : (s.pushed l).pending = s.pending := rfl
@[simp] theorem State.pushed_inputs (s : State) (l : List Byte) : (s.pushed l).inputs = s.inputs := rfl
@[simp] theorem State.pushed_cfg (s : State) (l : List Byte) : (s.pushed l).cfg = s.cfg := rfl
@[simp] theorem State.pushed_free (s : State) (l : List Byte) : (s.pushed l).free = s.free := rfl
@[simp] theorem State.pushed_cycles (s : State) (l : List Byte) : (s.pushed l).cycles = s.cycles := rfl
@[simp] theorem State.pushed_acc (s : State) (l : List Byte) (r : Acc) : (s.pushed l).acc r = s.acc r := by cases r <;> rfl

theorem memPushed_wf (bytes : List Byte) (sp : Word) (m : Memory) (h : m.wf = true) : (memPushed bytes sp m).wf = true := by
  induction bytes generalizing sp m with
  | nil => exact h
  | cons v rest ih => exact ih _ _ (m.set_wf _ _ h)

theorem addrOf_zero_inj (p q : Word) (h : addrOf 0 p = addrOf 0 q) : p = q := by
  have := congrArg offsetOf h
  simpa using this

/-- The place of a byte pushed later lies strictly below. -/
theorem pushedAt_above (bytes : List Byte) (sp : Word) (k : Nat) (h1 : 0 < k) (h2 : k + bytes.length ≤ 65536) :
    pushedAt bytes sp (addrOf 0 (sp + BitVec.ofNat 16 k)) = none := by
  induction bytes generalizing sp k with
  | nil => rfl
  | cons v rest ih =>
    simp only [List.length_cons] at h2
    have hne : addrOf 0 (sp + BitVec.ofNat 16 k) ≠ addrOf 0 sp := by
      intro e
      have := congrArg BitVec.toNat (addrOf_zero_inj _ _ e)
      simp only [BitVec.toNat_add, BitVec.toNat_ofNat] at this
      have := sp.isLt
      omega
    have e : sp + BitVec.ofNat 16 k = sp - 1 + BitVec.ofNat 16 (k + 1) := by
      apply BitVec.eq_of_toNat_eq
      simp only [BitVec.toNat_add, BitVec.toNat_sub, BitVec.toNat_ofNat, toNat_one_word]
      omega
    simp only [pushedAt, hne, if_false]
    rw [e]
    exact ih (sp - 1) (k + 1) (by omega) (by omega)

theorem memPushed_get (bytes : List Byte) (sp : Word) (m : Memory) (h : m.wf = true) (hl : bytes.length ≤ 65536) (b : Addr) :
    (memPushed bytes sp m).get b = (pushedAt bytes sp b).getD (m.get b) := by
  induction bytes generalizing sp m with
  | nil => rfl
  | cons v rest ih =>
    simp only [List.length_cons] at hl
    simp only [memPushed, pushedAt]
    rw [ih _ _ (m.set_wf _ _ h) (by omega), Memory.get_set _ _ _ _ h]
    by_cases hb : b = addrOf 0 sp
    · subst hb
      have e : sp = sp - 1 + BitVec.ofNat 16 1 := by
        apply BitVec.eq_of_toNat_eq
        simp only [BitVec.toNat_add, BitVec.toNat_sub, BitVec.toNat_ofNat, toNat_one_word]
        have := sp.isLt
        omega
      have := pushedAt_above rest (sp - 1) 1 (by omega) (by omega)
      rw [← e] at this
      rw [this, if_pos rfl, if_pos rfl]
      rfl
    · rw [if_neg hb, if_neg hb]

theorem State.pushed_pushes (s : State) (bytes : List Byte) (h : s.mem.wf = true) (hl : bytes.length ≤ 65536) :
    pushes bytes s (s.pushed bytes) :=
  ⟨rfl, fun b => memPushed_get bytes s.sp s.mem h hl b⟩

theorem State.pushed_nil (s : State) : s.pushed [] = s := by
  unfold State.pushed memPushed
  simp only [List.length_nil, BitVec.sub_zero]
  rfl

theorem memPushed_append (l k : List Byte) (sp : Word) (m : Memory) :
    memPushed (l ++ k) sp m = memPushed k (sp - BitVec.ofNat 16 l.length) (memPushed l sp m) := by
  induction l generalizing sp m with
  | nil => simp [memPushed]
  | cons v rest ih =>
    simp only [List.cons_append, memPushed, ih]
    congr 1
    apply BitVec.eq_of_toNat_eq
    simp only [BitVec.toNat_sub, BitVec.toNat_ofNat, List.length_cons, toNat_one_word]
    omega

theorem State.pushed_append (s : State) (l k : List Byte) : (s.pushed l).pushed k = s.pushed (l ++ k) := by
  have e : s.sp - BitVec.ofNat 16 l.length - BitVec.ofNat 16 k.length = s.sp - BitVec.ofNat 16 (l.length + k.length) := by
    apply BitVec.eq_of_toNat_eq
    simp only [BitVec.toNat_sub, BitVec.toNat_ofNat]
    omega
  unfold State.pushed
  rw [memPushed_append, List.length_append, ← e]
  rfl

@[simp] theorem State.pushed_canPush (s : State) (bytes : List Byte) (len n : Nat) (sp : Word) :
    (s.pushed bytes).canPush len n sp = s.canPush len n sp := by
  induction n generalizing sp with
  | zero => rfl
  | succ n ih =>
    simp only [State.canPush, ih]
    rfl

theorem State.canPush_append (s : State) (len n k : Nat) (sp : Word) :
    s.canPush len (n + k) sp = (s.canPush len n sp && s.canPush len k (sp - BitVec.ofNat 16 n)) := by
  induction n generalizing sp with
  | zero => simp [State.canPush]
  | succ n ih =>
    have e : sp - 1 - BitVec.ofNat 16 n = sp - BitVec.ofNat 16 (n + 1) := by
      apply BitVec.eq_of_toNat_eq
      simp only [BitVec.toNat_sub, BitVec.toNat_ofNat, toNat_one_word]
      omega
    have e2 : n + 1 + k = n + k + 1 := by omega
    rw [e2]
    simp only [State.canPush, ih, e, Bool.and_assoc]

theorem State.push8_ok (s : State) (n : Nat) (v : Byte) (h : s.canPush n 1 s.sp = true) :
    s.push8 (some n) v = .ok (s.pushed [v]) := by
  have h1 : s.canStoreByte n (addrOf 0 s.sp) = true := by simpa [State.canPush] using h
  simp only [State.push8, State.stackAddr, s.storeByte_ok n _ v h1, res_ok_bind, res_pure]
  rfl

theorem State.push16_ok (s : State) (n : Nat) (v : Word) (h : s.canPush n 2 s.sp = true) :
    s.push16 (some n) v = .ok (s.pushed [highByte v, lowByte v]) := by
  have h2 := h
  rw [State.canPush_append s n 1 1, Bool.and_eq_true] at h2
  simp only [State.push16, s.push8_ok n _ h2.1, res_ok_bind]
  rw [State.push8_ok _ n (lowByte v) ((s.pushed_canPush [highByte v] n 1 _).trans h2.2), State.pushed_append]
  rfl

theorem State.pushData_ok (s : State) (n : Nat) (w : Width) (v : Word) (h : s.canPush n (bytesOf w) s.sp = true) :
    s.pushData (some n) w v = .ok (s.pushed (pushedBytes w v)) := by
  cases w with
  | w8 => exact s.push8_ok n _ h
  | w16 => exact s.push16_ok n _ h

/-- Any byte push that succeeds changes memory and S alone. -/
theorem State.push8_eq (s t : State) (len : Option Nat) (v : Byte) (h : s.push8 len v = .ok t) : t = s.pushed [v] := by
  obtain ⟨u, hu, ht⟩ := (res_bind_ok _ _ _).1 h
  obtain rfl := s.storeByte_eq u _ _ _ hu
  exact (Except.ok.inj ht).symm

theorem State.push16_eq (s t : State) (len : Option Nat) (v : Word) (h : s.push16 len v = .ok t) :
    t = s.pushed [highByte v, lowByte v] := by
  obtain ⟨u, hu, ht⟩ := (res_bind_ok _ _ _).1 h
  obtain rfl := s.push8_eq u _ _ hu
  obtain rfl := State.push8_eq _ t _ _ ht
  exact State.pushed_append _ _ _

theorem State.pushData_eq (s t : State) (len : Option Nat) (w : Width) (v : Word) (h : s.pushData len w v = .ok t) :
    t = s.pushed (pushedBytes w v) := by
  cases w with
  | w8 => exact s.push8_eq t len _ h
  | w16 => exact s.push16_eq t len _ h

/-- The bytes the push of a register stores, the first one first. -/
def State.regBytes (s : State) : Reg → List Byte
  | .a => pushedBytes s.mw s.a
  | .b => pushedBytes s.mw s.b
  | .x => pushedBytes s.xw s.x
  | .y => pushedBytes s.xw s.y
  | .dpr => [highByte s.dpr, lowByte s.dpr]
  | .dt => [s.dt]
  | .pg => [s.pg]
  | .ps => [s.ps.high, s.ps.low]

theorem State.pushReg_ok (s : State) (n : Nat) (r : Reg) (h : s.canPush n (s.regBytes r).length s.sp = true) :
    s.pushReg (some n) r = .ok (s.pushed (s.regBytes r)) := by
  have hb : ∀ w v, (pushedBytes w v).length = bytesOf w := fun w v => by cases w <;> rfl
  cases r <;> simp only [State.regBytes, hb] at h <;> simp only [State.pushReg, State.regBytes]
  · exact s.pushData_ok n _ _ h
  · exact s.pushData_ok n _ _ h
  · exact s.pushData_ok n _ _ h
  · exact s.pushData_ok n _ _ h
  · exact s.push16_ok n _ h
  · exact s.push8_ok n _ h
  · exact s.push8_ok n _ h
  · simpa using s.push16_ok n s.ps.toWord h

theorem State.pushReg_eq (s t : State) (len : Option Nat) (r : Reg) (h : s.pushReg len r = .ok t) :
    t = s.pushed (s.regBytes r) := by
  cases r
  · exact s.pushData_eq t len _ _ h
  · exact s.pushData_eq t len _ _ h
  · exact s.pushData_eq t len _ _ h
  · exact s.pushData_eq t len _ _ h
  · exact s.push16_eq t len _ h
  · exact s.push8_eq t len _ h
  · exact s.push8_eq t len _ h
  · simpa [State.regBytes] using s.push16_eq t len _ h

/-! Pulling: S changes -/

theorem State.pull8_ok (s : State) (h : s.canReadByte (addrOf 0 (s.sp + 1)) = true) :
    s.pull8 = .ok (s.stackByte 1, s.setSp (s.sp + 1)) := by
  have h1 : (s.setSp (s.sp + 1)).readByte (s.setSp (s.sp + 1)).stackAddr = .ok (s.mem.get (addrOf 0 (s.sp + 1))) :=
    s.readByte_ok _ h
  simp only [State.pull8, h1, res_ok_bind, res_pure]
  rfl

theorem State.pull8_eq (s : State) (p : Byte × State) (h : s.pull8 = .ok p) : p = (s.stackByte 1, s.setSp (s.sp + 1)) := by
  obtain ⟨v, hv, hp⟩ := (res_bind_ok _ _ _).1 h
  obtain ⟨-, rfl⟩ := State.canReadByte_of_ok _ _ _ hv
  exact (Except.ok.inj hp).symm

/-- S after `n` bytes are pulled. -/
def State.raised (s : State) (n : Nat) : State := s.setSp (s.sp + BitVec.ofNat 16 n)

@[simp] theorem State.raised_a (s : State) (n : Nat) : (s.raised n).a = s.a := rfl
@[simp] theorem State.raised_b (s : State) (n : Nat) : (s.raised n).b = s.b := rfl
@[simp] theorem State.raised_x (s : State) (n : Nat) : (s.raised n).x = s.x := rfl
@[simp] theorem State.raised_y (s : State) (n : Nat) : (s.raised n).y = s.y := rfl
@[simp] theorem State.raised_sp (s : State) (n : Nat) : (s.raised n).sp = s.sp + BitVec.ofNat 16 n := rfl
@[simp] theorem State.raised_pc (s : State) (n : Nat) : (s.raised n).pc = s.pc := rfl
@[simp] theorem State.raised_pg (s : State) (n : Nat) : (s.raised n).pg = s.pg := rfl
@[simp] theorem State.raised_dt (s : State) (n : Nat) : (s.raised n).dt = s.dt := rfl
@[simp] theorem State.raised_dpr (s : State) (n : Nat) : (s.raised n).dpr = s.dpr := rfl
@[simp] theorem State.raised_ps (s : State) (n : Nat) : (s.raised n).ps = s.ps := rfl
@[simp] theorem State.raised_run (s : State) (n : Nat) : (s.raised n).run = s.run := rfl
@[simp] theorem State.raised_mem (s : State) (n : Nat) : (s.raised n).mem = s.mem := rfl
@[simp] theorem State.raised_pending (s : State) (n : Nat) : (s.raised n).pending = s.pending := rfl
@[simp] theorem State.raised_inputs (s : State) (n : Nat) : (s.raised n).inputs = s.inputs := rfl
@[simp] theorem State.raised_cfg (s : State) (n : Nat) : (s.raised n).cfg = s.cfg := rfl
@[simp] theorem State.raised_free (s : State) (n : Nat) : (s.raised n).free = s.free := rfl
@[simp] theorem State.raised_cycles (s : State) (n : Nat) : (s.raised n).cycles = s.cycles := rfl
@[simp] theorem State.raised_acc (s : State) (n : Nat) (r : Acc) : (s.raised n).acc r = s.acc r := by cases r <;> rfl

theorem State.raised_raised (s : State) (n k : Nat) : (s.raised n).raised k = s.raised (n + k) := by
  unfold State.raised State.setSp
  congr 1
  apply BitVec.eq_of_toNat_eq
  simp only [BitVec.toNat_add, BitVec.toNat_ofNat]
  omega

theorem State.raised_stackByte (s : State) (n k : Nat) : (s.raised n).stackByte k = s.stackByte (n + k) := by
  unfold State.stackByte State.raised
  simp only [State.setSp_mem, State.setSp_sp]
  congr 2
  apply BitVec.eq_of_toNat_eq
  simp only [BitVec.toNat_add, BitVec.toNat_ofNat]
  omega

theorem State.canPull_append (s : State) (n k : Nat) (sp : Word) :
    s.canPull (n + k) sp = (s.canPull n sp && s.canPull k (sp + BitVec.ofNat 16 n)) := by
  induction n generalizing sp with
  | zero => simp [State.canPull]
  | succ n ih =>
    have e : sp + 1 + BitVec.ofNat 16 n = sp + BitVec.ofNat 16 (n + 1) := by
      apply BitVec.eq_of_toNat_eq
      simp only [BitVec.toNat_add, BitVec.toNat_ofNat, toNat_one_word]
      omega
    have e2 : n + 1 + k = n + k + 1 := by omega
    rw [e2]
    simp only [State.canPull, ih, e, Bool.and_assoc]

theorem State.raised_canPull (s : State) (n k : Nat) (sp : Word) : (s.raised n).canPull k sp = s.canPull k sp := by
  induction k generalizing sp with
  | zero => rfl
  | succ k ih =>
    simp only [State.canPull, ih]
    rfl

theorem State.pull8_raised (s : State) (h : s.canPull 1 s.sp = true) : s.pull8 = .ok (s.stackByte 1, s.raised 1) :=
  s.pull8_ok (by simpa [State.canPull] using h)

theorem State.pull16_ok (s : State) (h : s.canPull 2 s.sp = true) :
    s.pull16 = .ok (wordOf (s.stackByte 2) (s.stackByte 1), s.raised 2) := by
  rw [State.canPull_append s 1 1, Bool.and_eq_true] at h
  have h2 : (s.raised 1).canPull 1 (s.raised 1).sp = true := by
    rw [State.raised_canPull]
    exact h.2
  simp only [State.pull16, s.pull8_raised h.1, res_ok_bind, (s.raised 1).pull8_raised h2, res_pure,
    State.raised_stackByte, State.raised_raised]

theorem State.pull16_eq (s : State) (p : Word × State) (h : s.pull16 = .ok p) :
    p = (wordOf (s.stackByte 2) (s.stackByte 1), s.raised 2) := by
  obtain ⟨q, hq, h⟩ := (res_bind_ok _ _ _).1 h
  obtain rfl := s.pull8_eq q hq
  obtain ⟨r, hr, h⟩ := (res_bind_ok _ _ _).1 h
  obtain rfl := State.pull8_eq _ r hr
  obtain rfl := Except.ok.inj h
  have e1 : s.setSp (s.sp + 1) = s.raised 1 := rfl
  simp only [e1, State.raised_stackByte]
  exact congrArg _ (State.raised_raised s 1 1)

theorem State.pullData_ok (s : State) (w : Width) (h : s.canPull (bytesOf w) s.sp = true) :
    ∃ v, s.pullData w = .ok (v, s.raised (bytesOf w)) ∧ v.toNat = s.pulledNumber w := by
  cases w with
  | w8 =>
    refine ⟨wordOfByte (s.stackByte 1), ?_, ?_⟩
    · simp only [State.pullData, s.pull8_raised h, res_ok_bind, res_pure]
      rfl
    · have := (s.stackByte 1).isLt
      simp only [wordOfByte, BitVec.toNat_setWidth, State.pulledNumber]
      omega
  | w16 => exact ⟨_, s.pull16_ok h, wordOf_toNat _ _⟩

end Sys2Proof.Machine
end

