-- ==== Sys2Proof/Laws/Values.lean ====
section
/-! SUPPORT. Widths, results and flags as numbers. -/

namespace Sys2Proof.Machine

theorem truncTo_toNat (w : Width) (v : Word) : (truncTo w v).toNat = lowBits w v := by
  have := v.isLt
  cases w
  · simp only [truncTo, wordOfByte, lowByte, lowBits, bitsOf, BitVec.toNat_setWidth, BitVec.extractLsb'_toNat,
      Nat.shiftRight_zero]
    omega
  · simp only [truncTo, lowBits, bitsOf]
    omega

theorem lowBits_lt (w : Width) (v : Word) : lowBits w v < 2 ^ bitsOf w := Nat.mod_lt _ (Nat.two_pow_pos _)

theorem narrow_toNat (w : Width) (n : Nat) : (narrow w n).toNat = n % 2 ^ bitsOf w := by
  cases w <;> simp only [narrow, bitsOf, BitVec.toNat_ofNat] <;> omega

theorem narrowInt_toNat (w : Width) (d : Int) : ((narrowInt w d).toNat : Int) = d % 2 ^ bitsOf w := by
  cases w <;> simp only [narrowInt, bitsOf, BitVec.toNat_ofInt] <;> omega

/-- Writing `w` bits into a register. -/
theorem mergeLow_receives (w : Width) (old v : Word) : receives w old (mergeLow w old v) (lowBits w v) := by
  refine ⟨lowBits_lt w v, ?_⟩
  have h1 := old.isLt
  have h2 := v.isLt
  cases w
  · simp only [mergeLow, wordOf_toNat, highByte, lowByte, BitVec.extractLsb'_toNat, lowBits, bitsOf,
      Nat.shiftRight_eq_div_pow]
    omega
  · simp only [mergeLow, lowBits, bitsOf]
    omega

theorem lowBits_of_lt (w : Width) (v : Word) (h : v.toNat < 2 ^ bitsOf w) : lowBits w v = v.toNat := Nat.mod_eq_of_lt h

theorem topBit_eq (w : Width) (v : Word) : topBit w v = decide (2 ^ (bitsOf w - 1) ≤ lowBits w v) := by
  have := v.isLt
  cases w
  · simp only [topBit, lowBits, bitsOf, BitVec.getLsbD, Nat.testBit_eq_decide_div_mod_eq]
    apply decide_eq_decide.2
    omega
  · simp only [topBit, lowBits, bitsOf, BitVec.getLsbD, Nat.testBit_eq_decide_div_mod_eq]
    apply decide_eq_decide.2
    omega

theorem withNZ_flagsNZ (p : PS) (w : Width) (v : Word) : flagsNZ w (lowBits w v) (p.withNZ w v) := by
  refine ⟨topBit_eq w v, ?_⟩
  simp only [PS.withNZ]
  rw [← truncTo_toNat, Bool.eq_iff_iff, beq_iff_eq, decide_eq_true_eq, ← BitVec.toNat_inj]
  rfl

theorem State.xi_toNat (s : State) : s.xi.toNat = lowBits s.xw s.x := truncTo_toNat _ _

theorem State.yi_toNat (s : State) : s.yi.toNat = lowBits s.xw s.y := truncTo_toNat _ _

theorem State.readData_lt (s : State) (w : Width) (a : Addr) (v : Word) (h : s.readData w a = .ok v) :
    v.toNat < 2 ^ bitsOf w := by
  cases w
  · obtain ⟨b, -, hv⟩ := (res_bind_ok _ _ _).1 h
    obtain rfl := Except.ok.inj hv
    have := b.isLt
    simp only [wordOfByte, BitVec.toNat_setWidth, bitsOf]
    omega
  · exact v.isLt

/-- An operand of width `w` fits in `w` bits. -/
theorem State.operand_lt (s : State) (w : Width) (o : Operand) (v : Word) (h : s.operand w o = .ok v) :
    v.toNat < 2 ^ bitsOf w := by
  cases o with
  | imm i =>
    obtain rfl := Except.ok.inj h
    rw [truncTo_toNat]
    exact lowBits_lt w i
  | mem o =>
    obtain ⟨a, -, hv⟩ := (res_bind_ok _ _ _).1 h
    exact s.readData_lt w a v hv

end Sys2Proof.Machine
end

