-- ==== Sys2Proof/Laws/Frames.lean ====
section
/-! SUPPORT. How a claim about one instruction ends: the frame, the address after the instruction, the value a register
receives. -/

namespace Sys2Proof.Machine

/-- To show a frame it is enough that every part is listed or the same. -/
theorem onlyChanges_of_parts (parts : List Part) (s t : State) (h : ∀ p, p ∈ parts ∨ p.same s t) : onlyChanges parts s t :=
  fun p hp => (h p).resolve_left hp

/-- An instruction that ends at the address after it with DT as it was completes where `mayContinue` says so. -/
theorem complete_of_mayContinue (s t : State) (i : Instr) (r : Res State) (h : s.mayContinue i = true) (hr : r = .ok t)
    (hc : t.cfg = s.cfg) (hd : t.dt = s.dt) (hp : t.pcAddr = s.nextPC (s.lengthOf i)) : complete r = .next t := by
  have e : t.pg = bankOf t.pcAddr := by simp [State.pcAddr]
  rw [hr]
  apply complete_ok
  rw [hc, hd, e, hp]
  exact h

/-- A register that is merged with a value receives the value's low bits. -/
theorem mergeLow_receives_of (w : Width) (old v : Word) (n : Nat) (h : lowBits w v = n) : receives w old (mergeLow w old v) n :=
  h ▸ mergeLow_receives w old v

/-- N and Z after `withNZ`. -/
theorem withNZ_flagsNZ_of (p : PS) (w : Width) (v : Word) (n : Nat) (h : lowBits w v = n) : flagsNZ w n (p.withNZ w v) :=
  h ▸ withNZ_flagsNZ p w v

theorem lowBits_narrow (w : Width) (n : Nat) : lowBits w (narrow w n) = n % 2 ^ bitsOf w := by
  rw [lowBits_of_lt, narrow_toNat]
  rw [narrow_toNat]
  exact Nat.mod_lt _ (Nat.two_pow_pos _)

theorem narrowInt_pred_toNat (w : Width) (v : Word) (h : v.toNat < 2 ^ bitsOf w) :
    (narrowInt w ((v.toNat : Int) - 1)).toNat = (v.toNat + 2 ^ bitsOf w - 1) % 2 ^ bitsOf w := by
  have e := narrowInt_toNat w ((v.toNat : Int) - 1)
  cases w <;> simp only [bitsOf] at * <;> omega

theorem lowBits_mergeLow (w : Width) (old v : Word) : lowBits w (mergeLow w old v) = lowBits w v := by
  have e := (mergeLow_receives w old v).2
  have hv := lowBits_lt w v
  unfold lowBits at *
  rw [e, Nat.mul_add_mod_self_right, Nat.mod_eq_of_lt hv]

theorem mergeLow_div (w : Width) (old v : Word) : (mergeLow w old v).toNat / 2 ^ bitsOf w = old.toNat / 2 ^ bitsOf w := by
  have e := (mergeLow_receives w old v).2
  have hv := lowBits_lt w v
  rw [e, Nat.add_comm, Nat.add_mul_div_right _ _ (Nat.two_pow_pos _), Nat.div_eq_of_lt hv, Nat.zero_add]

end Sys2Proof.Machine
end

