-- ==== Sys2Proof/Laws/Block.lean ====
section
/-! SUPPORT. What the byte loop of MVN and MVP does, said once: which bytes of memory it leaves alone, and everything else. -/

namespace Sys2Proof.Machine

/-- MVN counts up, MVP down. -/
def directionOf (up : Bool) : Direction := if up then .ascending else .descending

theorem blockIndex_lt (w : Width) (up : Bool) (v : Word) (k : Nat) : blockIndex w up v k < 2 ^ bitsOf w :=
  Nat.mod_lt _ (Nat.two_pow_pos _)

theorem blockIndex_zero (w : Width) (up : Bool) (v : Word) : blockIndex w up v 0 = lowBits w v := by
  have := lowBits_lt w v
  cases up <;> simp [blockIndex, Nat.mod_eq_of_lt this]

theorem lowBits_next (w : Width) (up : Bool) (v : Word) :
    lowBits w ((directionOf up).next w (truncTo w v)) = blockIndex w up v 1 := by
  have hl := lowBits_lt w v
  have hp := Nat.two_pow_pos (bitsOf w)
  cases up
  · show lowBits w (narrowInt w _) = _
    have e := narrowInt_pred_toNat w (truncTo w v) (by rw [truncTo_toNat]; exact hl)
    have ht : (truncTo w v).toNat = lowBits w v := truncTo_toNat _ _
    rw [ht] at e ⊢
    rw [lowBits_of_lt, e]
    · simp only [blockIndex]
      congr 1
      simp only [if_neg (show ¬ (false = true) by decide)]
      omega
    · rw [e]
      exact Nat.mod_lt _ hp
  · show lowBits w (narrow w _) = _
    rw [lowBits_narrow, truncTo_toNat]
    rfl

theorem blockIndex_succ (w : Width) (up : Bool) (v u : Word) (k : Nat) (h : lowBits w u = blockIndex w up v 1) :
    blockIndex w up u k = blockIndex w up v (k + 1) := by
  simp only [blockIndex] at *
  rw [h]
  cases up
  · simp only [if_neg (show ¬ (false = true) by decide)]
    rw [Nat.mod_add_mod]
    congr 1
    ring
  · simp only [if_pos]
    rw [Nat.mod_add_mod]
    congr 1
    omega

theorem State.blockIndex_xi (s : State) (w : Width) (up : Bool) (h : s.xw = w) : BitVec.ofNat 16 (blockIndex w up s.x 0) = s.xi := by
  apply BitVec.eq_of_toNat_eq
  have := lowBits_lt w s.x
  have hp : 2 ^ bitsOf w ≤ 65536 := by cases w <;> decide
  rw [State.xi_toNat, h, blockIndex_zero, BitVec.toNat_ofNat]
  exact Nat.mod_eq_of_lt (by omega)

theorem State.blockIndex_yi (s : State) (w : Width) (up : Bool) (h : s.xw = w) : BitVec.ofNat 16 (blockIndex w up s.y 0) = s.yi := by
  apply BitVec.eq_of_toNat_eq
  have := lowBits_lt w s.y
  have hp : 2 ^ bitsOf w ≤ 65536 := by cases w <;> decide
  rw [State.yi_toNat, h, blockIndex_zero, BitVec.toNat_ofNat]
  exact Nat.mod_eq_of_lt (by omega)

/-- From `s` to `t` a block transfer has moved `n` bytes; the bytes of memory and the free values drawn apart. -/
structure Moved (s t : State) (w : Width) (up : Bool) (n : Nat) : Prop where
  x : lowBits w t.x = blockIndex w up s.x n
  xHigh : t.x.toNat / 2 ^ bitsOf w = s.x.toNat / 2 ^ bitsOf w
  y : lowBits w t.y = blockIndex w up s.y n
  yHigh : t.y.toNat / 2 ^ bitsOf w = s.y.toNat / 2 ^ bitsOf w
  a : t.a = s.a
  b : t.b = s.b
  sp : t.sp = s.sp
  pc : t.pc = s.pc
  pg : t.pg = s.pg
  dt : t.dt = s.dt
  dpr : t.dpr = s.dpr
  ps : t.ps = s.ps
  run : t.run = s.run
  pending : t.pending = s.pending
  inputs : t.inputs = s.inputs
  cfg : t.cfg = s.cfg
  cycles : t.cycles = s.cycles
  free : s.free ≤ t.free
  wf : s.mem.wf = true → t.mem.wf = true

theorem Moved.refl (s : State) (w : Width) (up : Bool) : Moved s s w up 0 :=
  ⟨(blockIndex_zero ..).symm, rfl, (blockIndex_zero ..).symm, rfl, rfl, rfl, rfl, rfl, rfl, rfl, rfl, rfl, rfl, rfl, rfl, rfl, rfl,
    le_rfl, id⟩

theorem Moved.step {s q t : State} {w : Width} {up : Bool} {n : Nat} (h : Moved s q w up 1) (k : Moved q t w up n) :
    Moved s t w up (n + 1) :=
  ⟨k.x.trans (blockIndex_succ w up s.x q.x n h.x), k.xHigh.trans h.xHigh, k.y.trans (blockIndex_succ w up s.y q.y n h.y),
    k.yHigh.trans h.yHigh, k.a.trans h.a, k.b.trans h.b, k.sp.trans h.sp, k.pc.trans h.pc, k.pg.trans h.pg, k.dt.trans h.dt,
    k.dpr.trans h.dpr, k.ps.trans h.ps, k.run.trans h.run, k.pending.trans h.pending, k.inputs.trans h.inputs, k.cfg.trans h.cfg,
    k.cycles.trans h.cycles, h.free.trans k.free, fun hw => k.wf (h.wf hw)⟩

theorem State.moveByte_ok (s : State) (up : Bool) (n1 n2 : Byte) (open_ : Bool) (w : Width) (hw : s.xw = w)
    (hr : s.canReadByte (addrOf n2 s.xi) = true) (hs : s.canStoreByte 3 (addrOf n1 s.yi) = true) :
    ∃ t, s.moveByte (directionOf up) n1 n2 open_ = .ok t ∧ Moved s t w up 1 ∧
      t.mem = s.mem.set (addrOf n1 s.yi) (if open_ then lowByte s.drawn else s.mem.get (addrOf n2 s.xi)) := by
  have hx : lowBits w (mergeLow w s.x ((directionOf up).next w s.xi)) = blockIndex w up s.x 1 := by
    rw [lowBits_mergeLow, State.xi, hw]
    exact lowBits_next w up s.x
  have hy : lowBits w (mergeLow w s.y ((directionOf up).next w s.yi)) = blockIndex w up s.y 1 := by
    rw [lowBits_mergeLow, State.yi, hw]
    exact lowBits_next w up s.y
  subst hw
  unfold State.moveByte
  rw [s.readByte_ok _ hr]
  simp only [res_ok_bind]
  rw [s.storeByte_ok 3 _ _ hs]
  simp only [res_ok_bind, res_pure]
  refine ⟨_, rfl, ?_, ?_⟩
  · cases open_
    · exact ⟨hx, mergeLow_div _ _ _, hy, mergeLow_div _ _ _, rfl, rfl, rfl, rfl, rfl, rfl, rfl, rfl, rfl, rfl, rfl, rfl, rfl, le_rfl,
        Memory.set_wf _ _ _⟩
    · exact ⟨hx, mergeLow_div _ _ _, hy, mergeLow_div _ _ _, rfl, rfl, rfl, rfl, rfl, rfl, rfl, rfl, rfl, rfl, rfl, rfl, rfl,
        Nat.le_succ _, Memory.set_wf _ _ _⟩
  · cases open_ <;> rfl

/-- A block transfer under way reads and stores as the state before it does. -/
theorem Moved.readRefusal {s t : State} {w : Width} {up : Bool} {n : Nat} (h : Moved s t w up n) (a : Addr) :
    t.readRefusal a = s.readRefusal a := by
  unfold State.readRefusal State.kindAt
  rw [h.cfg]

theorem Moved.storeRefusal {s t : State} {w : Width} {up : Bool} {n : Nat} (h : Moved s t w up n) (len : Nat) (a : Addr) :
    t.storeRefusal len a = s.storeRefusal len a := by
  unfold State.storeRefusal State.kindAt State.inPrefetch State.pcAddr
  rw [h.cfg, h.pc, h.pg]

/-- Where every source byte can be read and every target byte stored, the loop completes, and no byte but the target bytes
changes. -/
theorem State.moveBytes_ok (up : Bool) (n1 n2 : Byte) (open_ : Bool) (n : Nat) (s : State) (w : Width) (hw : s.xw = w)
    (h : ∀ k < n, s.canReadByte (addrOf n2 (BitVec.ofNat 16 (blockIndex w up s.x k))) = true ∧
      s.canStoreByte 3 (addrOf n1 (BitVec.ofNat 16 (blockIndex w up s.y k))) = true) :
    ∃ t, s.moveBytes (directionOf up) n1 n2 open_ n = .ok t ∧ Moved s t w up n ∧
      (s.mem.wf = true → ∀ a : Addr, (∀ k < n, a ≠ addrOf n1 (BitVec.ofNat 16 (blockIndex w up s.y k))) →
        t.mem.get a = s.mem.get a) := by
  induction n generalizing s with
  | zero => exact ⟨s, rfl, Moved.refl s w up, fun _ _ _ => rfl⟩
  | succ n ih =>
    obtain ⟨hr, hs⟩ := h 0 (by omega)
    rw [s.blockIndex_xi w up hw] at hr
    rw [s.blockIndex_yi w up hw] at hs
    obtain ⟨q, hq, hm, hmem⟩ := s.moveByte_ok up n1 n2 open_ w hw hr hs
    have hqw : q.xw = w := by unfold State.xw; rw [hm.ps]; exact hw
    have hcr : ∀ a, q.canReadByte a = s.canReadByte a := by
      intro a
      unfold State.canReadByte State.kindAt
      rw [hm.cfg]
    have hcs : ∀ a, q.canStoreByte 3 a = s.canStoreByte 3 a := by
      intro a
      unfold State.canStoreByte State.kindAt State.inPrefetch State.pcAddr
      rw [hm.cfg, hm.pc, hm.pg]
    have hx : ∀ k, blockIndex w up q.x k = blockIndex w up s.x (k + 1) := fun k => blockIndex_succ w up s.x q.x k hm.x
    have hy : ∀ k, blockIndex w up q.y k = blockIndex w up s.y (k + 1) := fun k => blockIndex_succ w up s.y q.y k hm.y
    obtain ⟨t, ht, hn, hf⟩ := ih q hqw (by
      intro k hk
      rw [hx, hy, hcr, hcs]
      exact h (k + 1) (by omega))
    refine ⟨t, ?_, hm.step hn, ?_⟩
    · simp only [State.moveBytes, hq, res_ok_bind]
      exact ht
    · intro hwf a ha
      rw [hf (hm.wf hwf) a (fun k hk => by rw [hy]; exact ha (k + 1) (by omega)), hmem, Memory.get_set _ _ _ _ hwf, if_neg]
      rw [← s.blockIndex_yi w up hw]
      exact ha 0 (by omega)

end Sys2Proof.Machine
end

