-- ==== Sys2Proof/Laws/Interrupts.lean ====
section
/-! SUPPORT. What taking an interrupt and returning from one do, said once, and how pulls see what was pushed. -/

namespace Sys2Proof.Machine

/-! Pulling what was pushed -/

theorem State.canPull_of_canPush (s : State) (len n : Nat) (sp : Word) (h : s.canPush len n sp = true) :
    s.canPull n (sp - BitVec.ofNat 16 n) = true := by
  induction n generalizing sp with
  | zero => rfl
  | succ n ih =>
    have e1 : sp - BitVec.ofNat 16 (n + 1) = sp - 1 - BitVec.ofNat 16 n := by
      apply BitVec.eq_of_toNat_eq
      simp only [BitVec.toNat_sub, BitVec.toNat_ofNat, toNat_one_word]
      omega
    have e2 : sp - 1 - BitVec.ofNat 16 n + BitVec.ofNat 16 n + 1 = sp := by
      apply BitVec.eq_of_toNat_eq
      simp only [BitVec.toNat_sub, BitVec.toNat_add, BitVec.toNat_ofNat, toNat_one_word]
      have := sp.isLt
      omega
    simp only [State.canPush, State.canStoreByte, Bool.and_eq_true, beq_iff_eq] at h
    rw [State.canPull_append s n 1, e1, ih _ h.2, Bool.true_and]
    simp only [State.canPull, e2, Bool.and_true]
    unfold State.canReadByte
    rw [h.1.1]
    rfl

@[simp] theorem State.pushed_canPull (s : State) (bytes : List Byte) (n : Nat) (sp : Word) :
    (s.pushed bytes).canPull n sp = s.canPull n sp := by
  induction n generalizing sp with
  | zero => rfl
  | succ n ih => simp only [State.canPull, ih]; rfl

@[simp] theorem State.pushed_canRead (s : State) (bytes : List Byte) (n : Nat) (a : Addr) :
    (s.pushed bytes).canRead n a = s.canRead n a := by
  induction n generalizing a with
  | zero => rfl
  | succ n ih => simp only [State.canRead, ih]; rfl

theorem pushedAt_get (bytes : List Byte) (sp : Word) (k : Nat) (hk : k < bytes.length) (hl : bytes.length ≤ 65536) :
    pushedAt bytes sp (addrOf 0 (sp - BitVec.ofNat 16 k)) = bytes[k]? := by
  induction bytes generalizing sp k with
  | nil => simp at hk
  | cons v rest ih =>
    simp only [List.length_cons] at hk hl
    cases k with
    | zero => simp [pushedAt]
    | succ k =>
      have hne : addrOf 0 (sp - BitVec.ofNat 16 (k + 1)) ≠ addrOf 0 sp := by
        intro e
        have e := congrArg BitVec.toNat (addrOf_zero_inj _ _ e)
        simp only [BitVec.toNat_sub, BitVec.toNat_ofNat] at e
        have := sp.isLt
        omega
      have e : sp - BitVec.ofNat 16 (k + 1) = sp - 1 - BitVec.ofNat 16 k := by
        apply BitVec.eq_of_toNat_eq
        simp only [BitVec.toNat_sub, BitVec.toNat_ofNat, toNat_one_word]
        omega
      simp only [pushedAt, hne, if_false]
      rw [e, ih (sp - 1) k (by omega) (by omega)]
      simp

/-- The `k`-th byte above S after a push is the `k`-th last of the bytes pushed. -/
theorem State.pushed_stackByte (s : State) (bytes : List Byte) (hw : s.mem.wf = true) (hl : bytes.length ≤ 65536) (k : Nat)
    (h1 : 1 ≤ k) (h2 : k ≤ bytes.length) : some ((s.pushed bytes).stackByte k) = bytes[bytes.length - k]? := by
  have e : (s.pushed bytes).sp + BitVec.ofNat 16 k = s.sp - BitVec.ofNat 16 (bytes.length - k) := by
    show s.sp - BitVec.ofNat 16 bytes.length + BitVec.ofNat 16 k = _
    apply BitVec.eq_of_toNat_eq
    simp only [BitVec.toNat_sub, BitVec.toNat_add, BitVec.toNat_ofNat]
    have := s.sp.isLt
    omega
  unfold State.stackByte
  rw [e, (s.pushed_pushes bytes hw hl).2, pushedAt_get _ _ _ (by omega) hl, List.getElem?_eq_getElem (by omega)]
  rfl

/-! Taking an interrupt -/

/-- The five bytes an interrupt pushes. -/
def State.entryBytes (s : State) (ret : Addr) : List Byte :=
  [bankOf ret, highByte (offsetOf ret), lowByte (offsetOf ret), s.ps.high, s.ps.low]

/-- The state after taking an interrupt. -/
def State.entered (s : State) (ret vector : Addr) (level : Option (BitVec 3)) : State :=
  let t := s.pushed (s.entryBytes ret)
  (((t.setPs { s.ps with i := true, ipl := level.getD s.ps.ipl }).setPc
    (wordOf (t.mem.get (vector + 1)) (t.mem.get vector))).setPg 0).setRun .running

theorem State.enterInterrupt_ok (s : State) (n : Nat) (ret vector : Addr) (level : Option (BitVec 3))
    (h : s.canPush n 5 s.sp = true) (hr : s.canRead 2 vector = true) :
    s.enterInterrupt (some n) ret vector level = .ok (s.entered ret vector level) := by
  have h1 := h
  rw [State.canPush_append s n 1 4, Bool.and_eq_true] at h1
  have h2 := h
  rw [State.canPush_append s n 3 2, Bool.and_eq_true] at h2
  have h3 := h1.2
  rw [State.canPush_append s n 2 2, Bool.and_eq_true] at h3
  unfold State.enterInterrupt
  rw [s.push8_ok n _ h1.1]
  simp only [res_ok_bind]
  rw [State.push16_ok (s.pushed [bankOf ret]) n _ (by rw [State.pushed_canPush, State.pushed_sp]; exact h3.1), State.pushed_append]
  simp only [res_ok_bind]
  rw [State.push16_ok _ n _ (by rw [State.pushed_canPush, State.pushed_sp]; exact h2.2), State.pushed_append]
  simp only [res_ok_bind, PS.toWord_highByte, PS.toWord_lowByte]
  rw [State.readWord_ok _ vector (by rw [State.pushed_canRead]; exact hr)]
  rfl

theorem State.push8_none_ok (s : State) (v : Byte) (h : s.kindAt (addrOf 0 s.sp) = .ram) :
    s.push8 none v = .ok (s.pushed [v]) := by
  have e : s.storeByte none s.stackAddr v = .ok (s.setMem (s.mem.set (addrOf 0 s.sp) v)) := by
    simp only [State.storeByte, State.writeByte, State.stackAddr, h]
  simp only [State.push8, e, res_ok_bind, res_pure]
  rfl

theorem State.enterInterrupt_none_ok (s : State) (ret vector : Addr) (level : Option (BitVec 3))
    (h : s.ramBelow 5 s.sp = true) (hr : s.canRead 2 vector = true) :
    s.enterInterrupt none ret vector level = .ok (s.entered ret vector level) := by
  simp only [State.ramBelow, Bool.and_eq_true, beq_iff_eq, Bool.and_true] at h
  obtain ⟨k0, k1, k2, k3, k4⟩ := h
  have hk : ∀ l a, (s.pushed l).kindAt a = s.kindAt a := fun _ _ => rfl
  have e2 : s.sp - BitVec.ofNat 16 2 = s.sp - 1 - 1 := by rw [sub_sub]; rfl
  have e3 : s.sp - BitVec.ofNat 16 3 = s.sp - 1 - 1 - 1 := by rw [sub_sub, sub_sub]; rfl
  have e4 : s.sp - BitVec.ofNat 16 4 = s.sp - 1 - 1 - 1 - 1 := by rw [sub_sub, sub_sub, sub_sub]; rfl
  simp only [State.enterInterrupt, State.push16]
  rw [State.push8_none_ok s _ k0]
  simp only [res_ok_bind]
  rw [State.push8_none_ok _ _ (by rw [hk, State.pushed_sp]; exact k1), State.pushed_append]
  simp only [res_ok_bind]
  rw [State.push8_none_ok _ _ (by
    rw [hk, State.pushed_sp]; simp only [List.length_append, List.length_cons, List.length_nil]; rw [e2]; exact k2), State.pushed_append]
  simp only [res_ok_bind]
  rw [State.push8_none_ok _ _ (by
    rw [hk, State.pushed_sp]; simp only [List.length_append, List.length_cons, List.length_nil]; rw [e3]; exact k3), State.pushed_append]
  simp only [res_ok_bind]
  rw [State.push8_none_ok _ _ (by
    rw [hk, State.pushed_sp]; simp only [List.length_append, List.length_cons, List.length_nil]; rw [e4]; exact k4), State.pushed_append]
  simp only [res_ok_bind, PS.toWord_highByte, PS.toWord_lowByte]
  rw [State.readWord_ok _ vector (by rw [State.pushed_canRead]; exact hr)]
  rfl

/-! Returning from an interrupt -/

theorem PS.ofBytes_low (hi lo : Byte) : (PS.ofBytes hi lo).low = lo := by
  have e : ∀ l : Byte, BitVec.ofBool (l.getLsbD 7) ++ BitVec.ofBool (l.getLsbD 6) ++ BitVec.ofBool (l.getLsbD 5) ++
      BitVec.ofBool (l.getLsbD 4) ++ BitVec.ofBool (l.getLsbD 3) ++ BitVec.ofBool (l.getLsbD 2) ++ BitVec.ofBool (l.getLsbD 1) ++
      BitVec.ofBool (l.getLsbD 0) = l := by decide
  exact e lo

theorem PS.ofBytes_ipl (hi lo : Byte) : (PS.ofBytes hi lo).ipl.toNat = hi.toNat % 8 := by simp [PS.ofBytes]

/-- The state after returning from an interrupt. -/
def State.left (s : State) : State :=
  (((s.raised 5).setPs (PS.ofBytes (s.stackByte 2) (s.stackByte 1))).setPg (s.stackByte 5)).setPc
    (wordOf (s.stackByte 4) (s.stackByte 3))

theorem State.setPs_canPull (s : State) (p : PS) (n : Nat) (sp : Word) : (s.setPs p).canPull n sp = s.canPull n sp := by
  induction n generalizing sp with
  | zero => rfl
  | succ n ih => simp only [State.canPull, ih]; rfl

theorem State.leaveInterrupt_ok (s : State) (h : s.canPull 5 s.sp = true) : s.leaveInterrupt = .ok s.left := by
  have h1 := h
  rw [State.canPull_append s 2 3, Bool.and_eq_true] at h1
  have h2 := h1.2
  rw [State.canPull_append s 2 1, Bool.and_eq_true] at h2
  have h3 := h
  rw [State.canPull_append s 4 1, Bool.and_eq_true] at h3
  unfold State.leaveInterrupt
  simp only [State.pullReg, s.pull16_ok h1.1, res_ok_bind, res_pure, highByte_wordOf, lowByte_wordOf]
  rw [State.pull16_ok _ (by rw [State.setPs_canPull, State.raised_canPull]; exact h2.1)]
  simp only [res_ok_bind]
  have hsp : (((s.raised 2).setPs (PS.ofBytes (s.stackByte 2) (s.stackByte 1))).raised 2).sp = s.sp + BitVec.ofNat 16 4 := by
    simp only [State.raised_sp, State.setPs_sp, add_assoc]
    rfl
  rw [State.pull8_raised _ (by rw [State.raised_canPull, State.setPs_canPull, State.raised_canPull, hsp]; exact h3.2)]
  simp only [res_ok_bind]
  have hb : ∀ (q : State) p k, (q.setPs p).stackByte k = q.stackByte k := fun _ _ _ => rfl
  have hr : ∀ p n, ((s.raised 2).setPs p).raised n = ((s.raised 2).raised n).setPs p := fun _ _ => rfl
  simp only [hb, State.raised_stackByte]
  rw [State.raised_raised, hr, State.raised_raised]
  rfl

end Sys2Proof.Machine
end

