-- ==== Sys2Proof/Laws/PerInstr.lean ====
section
/-! SUPPORT. Statements for all instructions, one lemma for each constructor of Instr. -/

namespace Sys2Proof.Laws

/-- The encoding of a well-formed instruction has as many bytes as the length rule gives (R71). -/
def EncodedLength.Statement (i : Instr) : Prop :=
  ∀ m x : Bool, i.wf m x = true → (encode m x i).length = i.length (Machine.widthOf m) (Machine.widthOf x)

theorem immBytes_length (flag : Bool) (v : Word) : (immBytes flag v).length = Machine.bytesOf (Machine.widthOf flag) := by
  cases flag <;> rfl

theorem memBytes_length (o : MemMode) : o.bytes.length = o.length := by
  cases o <;> rfl

theorem lead_length (r : Acc) : r.lead.length + 1 = r.codeBytes := by
  cases r <;> rfl

/-- An accumulator group encoding: one code byte and the operand bytes. -/
theorem groupBytes_length (m : Bool) (base : Byte) (o : Operand) :
    (groupBytes m base o).length = 1 + o.length (Machine.widthOf m) := by
  cases o with
  | imm v => exact (congrArg (· + 1) (immBytes_length m v)).trans (Nat.add_comm _ _)
  | mem o => exact (congrArg (· + 1) (memBytes_length o)).trans (Nat.add_comm _ _)

theorem leadGroup_length (m : Bool) (base : Byte) (r : Acc) (o : Operand) :
    (r.lead ++ groupBytes m base o).length = r.codeBytes + o.length (Machine.widthOf m) := by
  rw [List.length_append, groupBytes_length, ← lead_length]
  omega

/-- A mode that `pick` knows: one code byte and the operand bytes. -/
theorem pick_length (o : MemMode) (c1 c2 c3 c4 : Byte) (h : o.isXMode = true ∨ o.isYMode = true) :
    (o.pick c1 c2 c3 c4).length = 1 + o.length := by
  cases o <;> first | rfl | (rcases h with h | h <;> cases h)

theorem isStyMode_isXMode (o : MemMode) (h : o.isStyMode = true) : o.isXMode = true := by
  cases o <;> first | rfl | cases h

theorem isStxMode_isYMode (o : MemMode) (h : o.isStxMode = true) : o.isYMode = true := by
  cases o <;> first | rfl | cases h

theorem isPlainMode_isXMode (o : MemMode) (h : o.isPlainMode = true) : o.isXMode = true := by
  cases o <;> first | rfl | cases h

theorem destBytes_length (a c1 c2 c3 c4 : Byte) (d : Dest) (h : d.fits = true) :
    (d.bytes a c1 c2 c3 c4).length = d.length := by
  cases d with
  | acc r => exact (List.length_append).trans (lead_length r)
  | mem o => exact pick_length o c1 c2 c3 c4 (.inl h)

namespace EncodedLength

theorem lda (r : Acc) (o : Operand) : Statement (.lda r o) := fun m _ _ => leadGroup_length m 0xA0 r o

theorem ldm (o : MemMode) (imm : Word) : Statement (.ldm o imm) := by
  intro m _ h
  simp only [Instr.wf, Bool.and_eq_true] at h
  simp only [encode, List.length_append, immBytes_length, pick_length o _ _ _ _ (.inl h.1), Instr.length]

theorem ldt (imm : Byte) : Statement (.ldt imm) := fun _ _ _ => rfl

theorem ldx (o : Operand) : Statement (.ldx o) := by
  intro _ x h
  cases o with
  | imm v => exact (congrArg (· + 1) (immBytes_length x v)).trans (Nat.add_comm _ _)
  | mem o => exact pick_length o _ _ _ _ (.inr h)

theorem ldy (o : Operand) : Statement (.ldy o) := by
  intro _ x h
  cases o with
  | imm v => exact (congrArg (· + 1) (immBytes_length x v)).trans (Nat.add_comm _ _)
  | mem o => exact pick_length o _ _ _ _ (.inl h)

theorem sta (r : Acc) (o : MemMode) : Statement (.sta r o) := fun m _ _ => leadGroup_length m 0x80 r (.mem o)

theorem stx (o : MemMode) : Statement (.stx o) := fun _ _ h => pick_length o _ _ _ _ (.inr (isStxMode_isYMode o h))

theorem sty (o : MemMode) : Statement (.sty o) := fun _ _ h => pick_length o _ _ _ _ (.inl (isStyMode_isXMode o h))

theorem adc (r : Acc) (o : Operand) : Statement (.adc r o) := fun m _ _ => leadGroup_length m 0x60 r o

theorem sbc (r : Acc) (o : Operand) : Statement (.sbc r o) := fun m _ _ => leadGroup_length m 0xE0 r o

theorem cmp (r : Acc) (o : Operand) : Statement (.cmp r o) := fun m _ _ => leadGroup_length m 0xC0 r o

theorem cpx (o : Operand) : Statement (.cpx o) := by
  intro _ x h
  cases o with
  | imm v => exact (congrArg (· + 1) (immBytes_length x v)).trans (Nat.add_comm _ _)
  | mem o => exact pick_length o _ _ _ _ (.inl (isPlainMode_isXMode o h))

theorem cpy (o : Operand) : Statement (.cpy o) := by
  intro _ x h
  cases o with
  | imm v => exact (congrArg (· + 1) (immBytes_length x v)).trans (Nat.add_comm _ _)
  | mem o => exact pick_length o _ _ _ _ (.inl (isPlainMode_isXMode o h))

theorem and (r : Acc) (o : Operand) : Statement (.and r o) := fun m _ _ => leadGroup_length m 0x20 r o

theorem ora (r : Acc) (o : Operand) : Statement (.ora r o) := fun m _ _ => leadGroup_length m 0x00 r o

theorem eor (r : Acc) (o : Operand) : Statement (.eor r o) := fun m _ _ => leadGroup_length m 0x40 r o

theorem inc (d : Dest) : Statement (.inc d) := fun _ _ h => destBytes_length _ _ _ _ _ d h

theorem dec (d : Dest) : Statement (.dec d) := fun _ _ h => destBytes_length _ _ _ _ _ d h

theorem inx : Statement .inx := fun _ _ _ => rfl

theorem iny : Statement .iny := fun _ _ _ => rfl

theorem dex : Statement .dex := fun _ _ _ => rfl

theorem dey : Statement .dey := fun _ _ _ => rfl

theorem asl (d : Dest) : Statement (.asl d) := fun _ _ h => destBytes_length _ _ _ _ _ d h

theorem lsr (d : Dest) : Statement (.lsr d) := fun _ _ h => destBytes_length _ _ _ _ _ d h

theorem rol (d : Dest) : Statement (.rol d) := fun _ _ h => destBytes_length _ _ _ _ _ d h

theorem ror (d : Dest) : Statement (.ror d) := fun _ _ h => destBytes_length _ _ _ _ _ d h

theorem rla (imm : Word) : Statement (.rla imm) := by
  intro m _ _
  simp only [encode, List.length_append, immBytes_length, Instr.length]
  rfl

theorem mpy (o : Operand) : Statement (.mpy o) := by
  intro m _ _
  refine (congrArg (· + 1) (groupBytes_length m _ o)).trans ?_
  simp only [Instr.length]
  omega

theorem div (o : Operand) : Statement (.div o) := by
  intro m _ _
  refine (congrArg (· + 1) (groupBytes_length m _ o)).trans ?_
  simp only [Instr.length]
  omega

theorem bcc (rr : Byte) : Statement (.bcc rr) := fun _ _ _ => rfl

theorem bcs (rr : Byte) : Statement (.bcs rr) := fun _ _ _ => rfl

theorem beq (rr : Byte) : Statement (.beq rr) := fun _ _ _ => rfl

theorem bmi (rr : Byte) : Statement (.bmi rr) := fun _ _ _ => rfl

theorem bne (rr : Byte) : Statement (.bne rr) := fun _ _ _ => rfl

theorem bpl (rr : Byte) : Statement (.bpl rr) := fun _ _ _ => rfl

theorem bvc (rr : Byte) : Statement (.bvc rr) := fun _ _ _ => rfl

theorem bvs (rr : Byte) : Statement (.bvs rr) := fun _ _ _ => rfl

theorem bra (d : Displacement) : Statement (.bra d) := by
  intro _ _ _
  cases d <;> rfl

theorem bbs (o : MemMode) (imm : Word) (rr : Byte) : Statement (.bbs o imm rr) := by
  intro m _ h
  simp only [Instr.wf, Bool.and_eq_true] at h
  simp only [encode, List.length_append, immBytes_length, pick_length o _ _ _ _ (.inl (isPlainMode_isXMode o h.1)), Instr.length, List.length_singleton]

theorem bbc (o : MemMode) (imm : Word) (rr : Byte) : Statement (.bbc o imm rr) := by
  intro m _ h
  simp only [Instr.wf, Bool.and_eq_true] at h
  simp only [encode, List.length_append, immBytes_length, pick_length o _ _ _ _ (.inl (isPlainMode_isXMode o h.1)), Instr.length, List.length_singleton]

theorem jmp (t : JumpMode) : Statement (.jmp t) := by
  intro _ _ _
  cases t <;> rfl

theorem jsr (t : CallMode) : Statement (.jsr t) := by
  intro _ _ _
  cases t <;> rfl

theorem rts : Statement .rts := fun _ _ _ => rfl

theorem rtl : Statement .rtl := fun _ _ _ => rfl

theorem pha : Statement .pha := fun _ _ _ => rfl

theorem phb : Statement .phb := fun _ _ _ => rfl

theorem phd : Statement .phd := fun _ _ _ => rfl

theorem phg : Statement .phg := fun _ _ _ => rfl

theorem php : Statement .php := fun _ _ _ => rfl

theorem pht : Statement .pht := fun _ _ _ => rfl

theorem phx : Statement .phx := fun _ _ _ => rfl

theorem phy : Statement .phy := fun _ _ _ => rfl

theorem pla : Statement .pla := fun _ _ _ => rfl

theorem plb : Statement .plb := fun _ _ _ => rfl

theorem pld : Statement .pld := fun _ _ _ => rfl

theorem plp : Statement .plp := fun _ _ _ => rfl

theorem plt : Statement .plt := fun _ _ _ => rfl

theorem plx : Statement .plx := fun _ _ _ => rfl

theorem ply : Statement .ply := fun _ _ _ => rfl

theorem pea (imm : Word) : Statement (.pea imm) := fun _ _ _ => rfl

theorem pei (dd : Byte) : Statement (.pei dd) := fun _ _ _ => rfl

theorem per (imm : Word) : Statement (.per imm) := fun _ _ _ => rfl

theorem psh (nn : Byte) : Statement (.psh nn) := fun _ _ _ => rfl

theorem pul (nn : Byte) : Statement (.pul nn) := fun _ _ _ => rfl

theorem tad : Statement .tad := fun _ _ _ => rfl

theorem tbd : Statement .tbd := fun _ _ _ => rfl

theorem tas : Statement .tas := fun _ _ _ => rfl

theorem tbs : Statement .tbs := fun _ _ _ => rfl

theorem tax : Statement .tax := fun _ _ _ => rfl

theorem tay : Statement .tay := fun _ _ _ => rfl

theorem tbx : Statement .tbx := fun _ _ _ => rfl

theorem tby : Statement .tby := fun _ _ _ => rfl

theorem tda : Statement .tda := fun _ _ _ => rfl

theorem tdb : Statement .tdb := fun _ _ _ => rfl

theorem tsa : Statement .tsa := fun _ _ _ => rfl

theorem tsb : Statement .tsb := fun _ _ _ => rfl

theorem tsx : Statement .tsx := fun _ _ _ => rfl

theorem txa : Statement .txa := fun _ _ _ => rfl

theorem txb : Statement .txb := fun _ _ _ => rfl

theorem txs : Statement .txs := fun _ _ _ => rfl

theorem txy : Statement .txy := fun _ _ _ => rfl

theorem tya : Statement .tya := fun _ _ _ => rfl

theorem tyb : Statement .tyb := fun _ _ _ => rfl

theorem tyx : Statement .tyx := fun _ _ _ => rfl

theorem xab : Statement .xab := fun _ _ _ => rfl

theorem clc : Statement .clc := fun _ _ _ => rfl

theorem cli : Statement .cli := fun _ _ _ => rfl

theorem clm : Statement .clm := fun _ _ _ => rfl

theorem clv : Statement .clv := fun _ _ _ => rfl

theorem clp (imm : Byte) : Statement (.clp imm) := fun _ _ _ => rfl

theorem sec : Statement .sec := fun _ _ _ => rfl

theorem sei : Statement .sei := fun _ _ _ => rfl

theorem sem : Statement .sem := fun _ _ _ => rfl

theorem sep (imm : Byte) : Statement (.sep imm) := fun _ _ _ => rfl

theorem seb (o : MemMode) (imm : Word) : Statement (.seb o imm) := by
  intro m _ h
  simp only [Instr.wf, Bool.and_eq_true] at h
  simp only [encode, List.length_append, immBytes_length, pick_length o _ _ _ _ (.inl (isPlainMode_isXMode o h.1)), Instr.length]

theorem clb (o : MemMode) (imm : Word) : Statement (.clb o imm) := by
  intro m _ h
  simp only [Instr.wf, Bool.and_eq_true] at h
  simp only [encode, List.length_append, immBytes_length, pick_length o _ _ _ _ (.inl (isPlainMode_isXMode o h.1)), Instr.length]

theorem mvn (n1 : Byte) (n2 : Byte) : Statement (.mvn n1 n2) := fun _ _ _ => rfl

theorem mvp (n1 : Byte) (n2 : Byte) : Statement (.mvp n1 n2) := fun _ _ _ => rfl

theorem nop : Statement .nop := fun _ _ _ => rfl

theorem brk (nn : Byte) : Statement (.brk nn) := fun _ _ _ => rfl

theorem rti : Statement .rti := fun _ _ _ => rfl

theorem stp : Statement .stp := fun _ _ _ => rfl

theorem wit : Statement .wit := fun _ _ _ => rfl

end EncodedLength

end Sys2Proof.Laws
end

