-- ==== Sys2Proof/Laws/Refusals.lean ====
section
/-! SUPPORT. Why an access is refused, said once: the first byte that cannot be read or stored gives the reason. -/

namespace Sys2Proof.Machine

/-! One byte -/

theorem State.readByte_refused (s : State) (a : Addr) (e : Refusal) (h : s.readRefusal a = some e) :
    s.readByte a = .error e := by
  unfold State.readRefusal at h
  unfold State.readByte
  cases hk : s.kindAt a <;> simp_all

theorem State.canReadByte_of_none (s : State) (a : Addr) (h : s.readRefusal a = none) : s.canReadByte a = true := by
  unfold State.readRefusal at h
  unfold State.canReadByte
  cases hk : s.kindAt a <;> simp_all

theorem State.storeByte_refused (s : State) (n : Nat) (a : Addr) (v : Byte) (e : Refusal) (h : s.storeRefusal n a = some e) :
    s.storeByte (some n) a v = .error e := by
  unfold State.storeRefusal at h
  unfold State.storeByte State.writeByte
  cases hp : s.inPrefetch n a <;> cases hk : s.kindAt a <;> simp_all

theorem State.canStoreByte_of_none (s : State) (n : Nat) (a : Addr) (h : s.storeRefusal n a = none) :
    s.canStoreByte n a = true := by
  unfold State.storeRefusal at h
  unfold State.canStoreByte
  cases hp : s.inPrefetch n a <;> cases hk : s.kindAt a <;> simp_all

/-- The first refusal of a list of bytes is that of its first byte, or the first byte is accessed and the rest gives it. -/
theorem firstRefusal_cons (f : Addr → Option Refusal) (a : Addr) (l : List Addr) (e : Refusal)
    (h : (a :: l).findSome? f = some e) : f a = some e ∨ f a = none ∧ l.findSome? f = some e := by
  rw [List.findSome?_cons] at h
  cases hf : f a with
  | some b => rw [hf] at h; exact .inl h
  | none => rw [hf] at h; exact .inr ⟨rfl, h⟩

/-! Data -/

theorem State.readWord_refused (s : State) (a : Addr) (e : Refusal) (h : s.readRefused 2 a e) : s.readWord a = .error e := by
  unfold State.readWord
  rcases firstRefusal_cons _ _ _ _ h with h | ⟨h0, h⟩
  · rw [s.readByte_refused a e h]; rfl
  · rw [s.readByte_ok a (s.canReadByte_of_none a h0)]
    rcases firstRefusal_cons _ _ _ _ h with h | ⟨_, h⟩
    · rw [res_ok_bind, s.readByte_refused _ e h]; rfl
    · cases h

theorem State.readLong_refused (s : State) (a : Addr) (e : Refusal) (h : s.readRefused 3 a e) : s.readLong a = .error e := by
  have e2 : a + 1 + 1 = a + 2 := by rw [BitVec.add_assoc]; rfl
  unfold State.readLong
  rcases firstRefusal_cons _ _ _ _ h with h | ⟨h0, h⟩
  · rw [s.readByte_refused a e h]; rfl
  · rw [s.readByte_ok a (s.canReadByte_of_none a h0), res_ok_bind]
    rcases firstRefusal_cons _ _ _ _ h with h | ⟨h1, h⟩
    · rw [s.readByte_refused _ e h]; rfl
    · rw [s.readByte_ok _ (s.canReadByte_of_none _ h1), res_ok_bind]
      rcases firstRefusal_cons _ _ _ _ h with h | ⟨_, h⟩
      · rw [← e2, s.readByte_refused _ e h]; rfl
      · cases h

theorem State.readData_refused (s : State) (w : Width) (a : Addr) (e : Refusal) (h : s.readRefused (bytesOf w) a e) :
    s.readData w a = .error e := by
  cases w with
  | w8 =>
    rcases firstRefusal_cons _ _ _ _ h with h | ⟨_, h⟩
    · simp only [State.readData, s.readByte_refused a e h]; rfl
    · cases h
  | w16 => exact s.readWord_refused a e h

theorem State.storeData_refused (s : State) (n : Nat) (w : Width) (a : Addr) (v : Word) (e : Refusal)
    (h : s.storeRefused n (bytesOf w) a e) : s.storeData n w a v = .error e := by
  cases w with
  | w8 =>
    rcases firstRefusal_cons _ _ _ _ h with h | ⟨_, h⟩
    · exact s.storeByte_refused n a _ e h
    · cases h
  | w16 =>
    unfold State.storeData
    rcases firstRefusal_cons _ _ _ _ h with h | ⟨h0, h⟩
    · simp only [s.storeByte_refused n a _ e h, res_error_bind]
    · simp only [s.storeByte_ok n a _ (s.canStoreByte_of_none n a h0), res_ok_bind]
      rcases firstRefusal_cons _ _ _ _ h with h | ⟨_, h⟩
      · exact State.storeByte_refused (s.setMem _) n _ _ e h
      · cases h

/-! The stack -/

/-- Refusing some pushes means refusing the first of them, or making it and refusing the others. -/
theorem State.pushRefused_append (s : State) (len n k : Nat) (e : Refusal) (h : s.pushRefused len (n + k) e) :
    s.pushRefused len n e ∨
      s.canPush len n s.sp = true ∧ ∀ bytes : List Byte, bytes.length = n → (s.pushed bytes).pushRefused len k e := by
  have key : ∀ (n : Nat) (sp : Word), (pushAddrs (n + k) sp).findSome? (s.storeRefusal len) = some e →
      (pushAddrs n sp).findSome? (s.storeRefusal len) = some e ∨
      s.canPush len n sp = true ∧ (pushAddrs k (sp - BitVec.ofNat 16 n)).findSome? (s.storeRefusal len) = some e := by
    intro n
    induction n with
    | zero => intro sp h; right; exact ⟨rfl, by simpa using h⟩
    | succ n ih =>
      intro sp h
      rw [Nat.succ_add] at h
      rcases firstRefusal_cons _ _ _ _ h with h | ⟨h0, h⟩
      · left; simp only [pushAddrs, List.findSome?_cons, h]
      · have e1 : sp - BitVec.ofNat 16 (n + 1) = sp - 1 - BitVec.ofNat 16 n := by
          apply BitVec.eq_of_toNat_eq
          simp only [BitVec.toNat_sub, BitVec.toNat_ofNat, toNat_one_word]
          omega
        rcases ih (sp - 1) h with h | ⟨h1, h⟩
        · left; simp only [pushAddrs, List.findSome?_cons, h0]; exact h
        · right
          rw [e1]
          exact ⟨by simp only [State.canPush, s.canStoreByte_of_none len _ h0, h1]; rfl, h⟩
  rcases key n s.sp h with h | ⟨h1, h⟩
  · exact .inl h
  · refine .inr ⟨h1, fun bytes hb => ?_⟩
    unfold State.pushRefused
    rw [State.pushed_sp, hb]
    exact h

theorem State.push8_refused (s : State) (n : Nat) (v : Byte) (e : Refusal) (h : s.pushRefused n 1 e) :
    s.push8 (some n) v = .error e := by
  rcases firstRefusal_cons _ _ _ _ h with h | ⟨_, h⟩
  · simp only [State.push8, State.stackAddr, s.storeByte_refused n _ v e h, res_error_bind]
  · cases h

theorem State.push16_refused (s : State) (n : Nat) (v : Word) (e : Refusal) (h : s.pushRefused n 2 e) :
    s.push16 (some n) v = .error e := by
  rcases s.pushRefused_append n 1 1 e h with h | ⟨h1, h⟩
  · simp only [State.push16, s.push8_refused n _ e h, res_error_bind]
  · simp only [State.push16, s.push8_ok n _ h1, res_ok_bind]
    exact State.push8_refused _ n _ e (h _ rfl)

theorem State.pushData_refused (s : State) (n : Nat) (w : Width) (v : Word) (e : Refusal) (h : s.pushRefused n (bytesOf w) e) :
    s.pushData (some n) w v = .error e := by
  cases w with
  | w8 => exact s.push8_refused n _ e h
  | w16 => exact s.push16_refused n _ e h

theorem State.pushReg_refused (s : State) (n : Nat) (r : Reg) (e : Refusal) (h : s.pushRefused n (s.regBytes r).length e) :
    s.pushReg (some n) r = .error e := by
  have hb : ∀ w v, (pushedBytes w v).length = bytesOf w := fun w v => by cases w <;> rfl
  cases r <;> simp only [State.regBytes, hb] at h <;> simp only [State.pushReg]
  · exact s.pushData_refused n _ _ e h
  · exact s.pushData_refused n _ _ e h
  · exact s.pushData_refused n _ _ e h
  · exact s.pushData_refused n _ _ e h
  · exact s.push16_refused n _ e h
  · exact s.push8_refused n _ e h
  · exact s.push8_refused n _ e h
  · exact s.push16_refused n _ e h

/-- Refusing some pulls means refusing the first of them, or making it and refusing the others. -/
theorem State.pullRefused_append (s : State) (n k : Nat) (e : Refusal) (h : s.pullRefused (n + k) e) :
    s.pullRefused n e ∨ s.canPull n s.sp = true ∧ (s.raised n).pullRefused k e := by
  have key : ∀ (n : Nat) (sp : Word), (pullAddrs (n + k) sp).findSome? s.readRefusal = some e →
      (pullAddrs n sp).findSome? s.readRefusal = some e ∨
      s.canPull n sp = true ∧ (pullAddrs k (sp + BitVec.ofNat 16 n)).findSome? s.readRefusal = some e := by
    intro n
    induction n with
    | zero => intro sp h; right; exact ⟨rfl, by simpa using h⟩
    | succ n ih =>
      intro sp h
      rw [Nat.succ_add] at h
      rcases firstRefusal_cons _ _ _ _ h with h | ⟨h0, h⟩
      · left; simp only [pullAddrs, List.findSome?_cons, h]
      · have e1 : sp + BitVec.ofNat 16 (n + 1) = sp + 1 + BitVec.ofNat 16 n := by
          apply BitVec.eq_of_toNat_eq
          simp only [BitVec.toNat_add, BitVec.toNat_ofNat, toNat_one_word]
          omega
        rcases ih (sp + 1) h with h | ⟨h1, h⟩
        · left; simp only [pullAddrs, List.findSome?_cons, h0]; exact h
        · right
          rw [e1]
          exact ⟨by simp only [State.canPull, s.canReadByte_of_none _ h0, h1]; rfl, h⟩
  exact key n s.sp h

theorem State.pull8_refused (s : State) (e : Refusal) (h : s.pullRefused 1 e) : s.pull8 = .error e := by
  rcases firstRefusal_cons _ _ _ _ h with h | ⟨_, h⟩
  · have h1 : (s.setSp (s.sp + 1)).readByte (s.setSp (s.sp + 1)).stackAddr = .error e :=
      State.readByte_refused (s.setSp (s.sp + 1)) _ e h
    simp only [State.pull8, h1, res_error_bind]
  · cases h

theorem State.pull16_refused (s : State) (e : Refusal) (h : s.pullRefused 2 e) : s.pull16 = .error e := by
  rcases s.pullRefused_append 1 1 e h with h | ⟨h1, h⟩
  · simp only [State.pull16, s.pull8_refused e h, res_error_bind]
  · simp only [State.pull16, s.pull8_raised h1, res_ok_bind, (s.raised 1).pull8_refused e h, res_error_bind]

theorem State.pullData_refused (s : State) (w : Width) (e : Refusal) (h : s.pullRefused (bytesOf w) e) :
    s.pullData w = .error e := by
  cases w with
  | w8 => simp only [State.pullData, s.pull8_refused e h, res_error_bind]
  | w16 => exact s.pull16_refused e h

/-- Bytes the pull of a register takes. -/
def pullSize (mw xw : Width) : Reg → Nat
  | .a | .b => bytesOf mw
  | .x | .y => bytesOf xw
  | .dpr | .ps => 2
  | .dt | .pg => 1

theorem State.pullReg_refused (s : State) (mw xw : Width) (r : Reg) (e : Refusal) (h : s.pullRefused (pullSize mw xw r) e) :
    s.pullReg mw xw r = .error e := by
  cases r <;> simp only [State.pullReg]
  · rw [s.pullData_refused _ e h]; rfl
  · rw [s.pullData_refused _ e h]; rfl
  · rw [s.pullData_refused _ e h]; rfl
  · rw [s.pullData_refused _ e h]; rfl
  · rw [s.pull16_refused e h]; rfl
  · rw [s.pull8_refused e h]; rfl
  · rw [s.pull8_refused e h]; rfl
  · rw [s.pull16_refused e h]; rfl

/-! Block transfers -/

theorem State.moveByte_refused (s : State) (d : Direction) (n1 n2 : Byte) (open_ : Bool) (e : Refusal)
    (h : (s.readRefusal (addrOf n2 s.xi)).or (s.storeRefusal 3 (addrOf n1 s.yi)) = some e) :
    s.moveByte d n1 n2 open_ = .error e := by
  unfold State.moveByte
  cases hr : s.readRefusal (addrOf n2 s.xi) with
  | some b =>
    rw [hr] at h
    rw [s.readByte_refused _ e (hr.trans h)]
    rfl
  | none =>
    rw [hr] at h
    rw [s.readByte_ok _ (s.canReadByte_of_none _ hr), res_ok_bind, s.storeByte_refused 3 _ _ e h]
    rfl

/-- The first byte of a block transfer that cannot be moved says why the transfer is refused. -/
theorem State.moveBytes_refused (up : Bool) (n1 n2 : Byte) (open_ : Bool) (n : Nat) (s : State) (w : Width) (hw : s.xw = w)
    (e : Refusal)
    (h : ((List.range n).findSome? fun k => (s.readRefusal (addrOf n2 (BitVec.ofNat 16 (blockIndex w up s.x k)))).or
      (s.storeRefusal 3 (addrOf n1 (BitVec.ofNat 16 (blockIndex w up s.y k))))) = some e) :
    s.moveBytes (directionOf up) n1 n2 open_ n = .error e := by
  induction n generalizing s with
  | zero => cases h
  | succ n ih =>
    rw [List.range_succ_eq_map, List.findSome?_cons, List.findSome?_map] at h
    rw [s.blockIndex_xi w up hw, s.blockIndex_yi w up hw] at h
    unfold State.moveBytes
    cases h0 : (s.readRefusal (addrOf n2 s.xi)).or (s.storeRefusal 3 (addrOf n1 s.yi)) with
    | some b =>
      rw [h0] at h
      rw [s.moveByte_refused _ n1 n2 open_ e (h0.trans h)]
      rfl
    | none =>
      rw [h0] at h
      obtain ⟨hr, hs⟩ := Option.or_eq_none_iff.1 h0
      obtain ⟨q, hq, hm, -⟩ := s.moveByte_ok up n1 n2 open_ w hw (s.canReadByte_of_none _ hr) (s.canStoreByte_of_none 3 _ hs)
      rw [hq, res_ok_bind]
      refine ih q (by unfold State.xw; rw [hm.ps]; exact hw) ?_
      rw [← h]
      congr 1
      funext k
      simp only [Function.comp_apply, hm.readRefusal, hm.storeRefusal]
      rw [blockIndex_succ w up s.x q.x k hm.x, blockIndex_succ w up s.y q.y k hm.y]

end Sys2Proof.Machine
end

