-- ==== Sys2Proof/Laws/Reset.lean ====
section
/-! SUPPORT. What the requests of a boundary and the reset sequence do, said once. -/

namespace Sys2Proof.Machine

theorem addRequests_nodup (n : Nat) (p l : List Nat) (h : p.Nodup) : (addRequests n p l).Nodup := by
  induction l generalizing p with
  | nil => exact h
  | cons a l ih =>
    simp only [addRequests]
    split
    · next ha =>
      refine ih _ ?_
      rw [List.nodup_append]
      refine ⟨h, List.nodup_singleton a, ?_⟩
      rintro x hx y hy rfl
      exact ha.2 (List.mem_singleton.1 hy ▸ hx)
    · exact ih _ h

/-- The pending requests after a boundary: those before it and those raised at it that name a source. -/
theorem mem_addRequests (n : Nat) (p l : List Nat) (k : Nat) : k ∈ addRequests n p l ↔ k ∈ p ∨ k ∈ l ∧ k < n := by
  induction l generalizing p with
  | nil => simp [addRequests]
  | cons a l ih =>
    simp only [addRequests, ih, List.mem_cons]
    split
    · next ha =>
      rw [List.mem_append, List.mem_singleton]
      constructor
      · rintro ((h | rfl) | h)
        · exact .inl h
        · exact .inr ⟨.inl rfl, ha.1⟩
        · exact .inr ⟨.inr h.1, h.2⟩
      · rintro (h | ⟨rfl | h, hk⟩)
        · exact .inl (.inl h)
        · exact .inl (.inr rfl)
        · exact .inr ⟨h, hk⟩
    · next ha =>
      constructor
      · rintro (h | h)
        · exact .inl h
        · exact .inr ⟨.inr h.1, h.2⟩
      · rintro (h | ⟨rfl | h, hk⟩)
        · exact .inl h
        · refine .inl (by_contra fun hp => ha ⟨hk, hp⟩)
        · exact .inr ⟨h, hk⟩

theorem Memory.holding_wf (l : List (Addr × Byte)) : (Memory.holding l).wf = true := by
  induction l with
  | nil => rfl
  | cons c rest ih => exact Memory.set_wf _ _ _ ih

theorem Memory.holding_get (l : List (Addr × Byte)) (a : Addr) : (Memory.holding l).get a = (l.lookup a).getD unlistedByte := by
  induction l with
  | nil => rfl
  | cons c rest ih =>
    obtain ⟨b, v⟩ := c
    simp only [Memory.holding, Memory.get_set _ _ _ _ (Memory.holding_wf rest), List.lookup_cons, ih]
    by_cases h : a = b
    · simp [h]
    · simp [h, beq_eq_false_iff_ne.2 h]

/-- The reset sequence gives every row of `RESET_STATE`; PC is the row's or what the vector then holds. -/
theorem State.resetSequence_cases (s t : State) (h : s.resetSequence = .ok t) : ∃ p : Word, t = s.withResetState.setPc p := by
  unfold State.resetSequence at h
  split at h
  · exact ⟨_, (Except.ok.inj h).symm⟩
  · obtain ⟨p, -, h⟩ := (res_bind_ok _ _ _).1 h
    exact ⟨p, (Except.ok.inj h).symm⟩

theorem State.resetSequence_ok (s : State) (h : s.cfg.resetState.pc = none → s.canRead 2 s.cfg.resetVector = true) :
    s.resetSequence = .ok (s.withResetState.setPc
      (s.cfg.resetState.pc.getD (wordOf (s.withResetState.mem.get (s.cfg.resetVector + 1))
        (s.withResetState.mem.get s.cfg.resetVector)))) := by
  unfold State.resetSequence
  split
  · next p hp => rw [hp]; rfl
  · next hp =>
    rw [State.readWord_ok s.withResetState _ (h hp), hp]
    rfl

theorem State.resetMemory_wf (s : State) (h : s.mem.wf = true) : s.resetMemory.wf = true := by
  unfold State.resetMemory
  split
  · exact h
  · exact Memory.holding_wf _

end Sys2Proof.Machine
end

