-- ==== Sys2Proof/Tests/Decoding.lean ====
section
/-! SUPPORT. Tests of the decoder: for every row of the opcode table one byte sequence, written out from R71, R75, R78, R80
and R81, and the instruction it stands for; each is read under m = 0, x = 0, and where m or x selects the width of the
immediate once more under m = 1, x = 1. -/

namespace Sys2Proof.Tests

/-- Each byte sequence decodes to its instruction with nothing left over, and the instruction encodes to it. -/
def agree (m x : Bool) : List (List Byte × Instr) → Bool
  | [] => true
  | (bytes, i) :: rest =>
    decide (decode m x bytes = .ok i []) && decide (encode m x i = bytes) && decide (i.wf m x = true) && agree m x rest

theorem test_decode_loadStore_lda : agree false false
    [([0xA1, 0x12], .lda .a (.mem (.dirXInd 0x12))),
     ([0xA3, 0x34], .lda .a (.mem (.sr 0x34))),
     ([0xA5, 0x12], .lda .a (.mem (.dir 0x12))),
     ([0xA7, 0x12], .lda .a (.mem (.dirIndL 0x12))),
     ([0xA9, 0x78, 0x56], .lda .a (.imm 0x5678)),
     ([0xAD, 0xCD, 0xAB], .lda .a (.mem (.abs 0xABCD))),
     ([0xAF, 0x56, 0x34, 0x12], .lda .a (.mem (.abl 0x123456))),
     ([0xB1, 0x12], .lda .a (.mem (.dirIndY 0x12))),
     ([0xB2, 0x12], .lda .a (.mem (.dirInd 0x12))),
     ([0xB3, 0x34], .lda .a (.mem (.srIndY 0x34))),
     ([0xB5, 0x12], .lda .a (.mem (.dirX 0x12))),
     ([0xB7, 0x12], .lda .a (.mem (.dirIndLY 0x12))),
     ([0xB9, 0xCD, 0xAB], .lda .a (.mem (.absY 0xABCD))),
     ([0xBD, 0xCD, 0xAB], .lda .a (.mem (.absX 0xABCD))),
     ([0xBF, 0x56, 0x34, 0x12], .lda .a (.mem (.ablX 0x123456))),
     ([0x42, 0xA1, 0x12], .lda .b (.mem (.dirXInd 0x12))),
     ([0x42, 0xA3, 0x34], .lda .b (.mem (.sr 0x34))),
     ([0x42, 0xA5, 0x12], .lda .b (.mem (.dir 0x12))),
     ([0x42, 0xA7, 0x12], .lda .b (.mem (.dirIndL 0x12))),
     ([0x42, 0xA9, 0x78, 0x56], .lda .b (.imm 0x5678)),
     ([0x42, 0xAD, 0xCD, 0xAB], .lda .b (.mem (.abs 0xABCD))),
     ([0x42, 0xAF, 0x56, 0x34, 0x12], .lda .b (.mem (.abl 0x123456))),
     ([0x42, 0xB1, 0x12], .lda .b (.mem (.dirIndY 0x12))),
     ([0x42, 0xB2, 0x12], .lda .b (.mem (.dirInd 0x12))),
     ([0x42, 0xB3, 0x34], .lda .b (.mem (.srIndY 0x34))),
     ([0x42, 0xB5, 0x12], .lda .b (.mem (.dirX 0x12))),
     ([0x42, 0xB7, 0x12], .lda .b (.mem (.dirIndLY 0x12))),
     ([0x42, 0xB9, 0xCD, 0xAB], .lda .b (.mem (.absY 0xABCD))),
     ([0x42, 0xBD, 0xCD, 0xAB], .lda .b (.mem (.absX 0xABCD))),
     ([0x42, 0xBF, 0x56, 0x34, 0x12], .lda .b (.mem (.ablX 0x123456)))] = true := by decide

theorem test_decode_loadStore_others : agree false false
    [([0x64, 0x12, 0x78, 0x56], .ldm (.dir 0x12) 0x5678),
     ([0x74, 0x12, 0x78, 0x56], .ldm (.dirX 0x12) 0x5678),
     ([0x9C, 0xCD, 0xAB, 0x78, 0x56], .ldm (.abs 0xABCD) 0x5678),
     ([0x9E, 0xCD, 0xAB, 0x78, 0x56], .ldm (.absX 0xABCD) 0x5678),
     ([0x89, 0xC2, 0x56], .ldt 0x56),
     ([0xA2, 0x78, 0x56], .ldx (.imm 0x5678)),
     ([0xA6, 0x12], .ldx (.mem (.dir 0x12))),
     ([0xAE, 0xCD, 0xAB], .ldx (.mem (.abs 0xABCD))),
     ([0xB6, 0x12], .ldx (.mem (.dirY 0x12))),
     ([0xBE, 0xCD, 0xAB], .ldx (.mem (.absY 0xABCD))),
     ([0xA0, 0x78, 0x56], .ldy (.imm 0x5678)),
     ([0xA4, 0x12], .ldy (.mem (.dir 0x12))),
     ([0xAC, 0xCD, 0xAB], .ldy (.mem (.abs 0xABCD))),
     ([0xB4, 0x12], .ldy (.mem (.dirX 0x12))),
     ([0xBC, 0xCD, 0xAB], .ldy (.mem (.absX 0xABCD))),
     ([0x86, 0x12], .stx (.dir 0x12)),
     ([0x8E, 0xCD, 0xAB], .stx (.abs 0xABCD)),
     ([0x96, 0x12], .stx (.dirY 0x12)),
     ([0x84, 0x12], .sty (.dir 0x12)),
     ([0x8C, 0xCD, 0xAB], .sty (.abs 0xABCD)),
     ([0x94, 0x12], .sty (.dirX 0x12))] = true := by decide

theorem test_decode_loadStore_sta : agree false false
    [([0x81, 0x12], .sta .a (.dirXInd 0x12)),
     ([0x83, 0x34], .sta .a (.sr 0x34)),
     ([0x85, 0x12], .sta .a (.dir 0x12)),
     ([0x87, 0x12], .sta .a (.dirIndL 0x12)),
     ([0x8D, 0xCD, 0xAB], .sta .a (.abs 0xABCD)),
     ([0x8F, 0x56, 0x34, 0x12], .sta .a (.abl 0x123456)),
     ([0x91, 0x12], .sta .a (.dirIndY 0x12)),
     ([0x92, 0x12], .sta .a (.dirInd 0x12)),
     ([0x93, 0x34], .sta .a (.srIndY 0x34)),
     ([0x95, 0x12], .sta .a (.dirX 0x12)),
     ([0x97, 0x12], .sta .a (.dirIndLY 0x12)),
     ([0x99, 0xCD, 0xAB], .sta .a (.absY 0xABCD)),
     ([0x9D, 0xCD, 0xAB], .sta .a (.absX 0xABCD)),
     ([0x9F, 0x56, 0x34, 0x12], .sta .a (.ablX 0x123456)),
     ([0x42, 0x81, 0x12], .sta .b (.dirXInd 0x12)),
     ([0x42, 0x83, 0x34], .sta .b (.sr 0x34)),
     ([0x42, 0x85, 0x12], .sta .b (.dir 0x12)),
     ([0x42, 0x87, 0x12], .sta .b (.dirIndL 0x12)),
     ([0x42, 0x8D, 0xCD, 0xAB], .sta .b (.abs 0xABCD)),
     ([0x42, 0x8F, 0x56, 0x34, 0x12], .sta .b (.abl 0x123456)),
     ([0x42, 0x91, 0x12], .sta .b (.dirIndY 0x12)),
     ([0x42, 0x92, 0x12], .sta .b (.dirInd 0x12)),
     ([0x42, 0x93, 0x34], .sta .b (.srIndY 0x34)),
     ([0x42, 0x95, 0x12], .sta .b (.dirX 0x12)),
     ([0x42, 0x97, 0x12], .sta .b (.dirIndLY 0x12)),
     ([0x42, 0x99, 0xCD, 0xAB], .sta .b (.absY 0xABCD)),
     ([0x42, 0x9D, 0xCD, 0xAB], .sta .b (.absX 0xABCD)),
     ([0x42, 0x9F, 0x56, 0x34, 0x12], .sta .b (.ablX 0x123456))] = true := by decide

theorem test_decode_arith_adc : agree false false
    [([0x61, 0x12], .adc .a (.mem (.dirXInd 0x12))),
     ([0x63, 0x34], .adc .a (.mem (.sr 0x34))),
     ([0x65, 0x12], .adc .a (.mem (.dir 0x12))),
     ([0x67, 0x12], .adc .a (.mem (.dirIndL 0x12))),
     ([0x69, 0x78, 0x56], .adc .a (.imm 0x5678)),
     ([0x6D, 0xCD, 0xAB], .adc .a (.mem (.abs 0xABCD))),
     ([0x6F, 0x56, 0x34, 0x12], .adc .a (.mem (.abl 0x123456))),
     ([0x71, 0x12], .adc .a (.mem (.dirIndY 0x12))),
     ([0x72, 0x12], .adc .a (.mem (.dirInd 0x12))),
     ([0x73, 0x34], .adc .a (.mem (.srIndY 0x34))),
     ([0x75, 0x12], .adc .a (.mem (.dirX 0x12))),
     ([0x77, 0x12], .adc .a (.mem (.dirIndLY 0x12))),
     ([0x79, 0xCD, 0xAB], .adc .a (.mem (.absY 0xABCD))),
     ([0x7D, 0xCD, 0xAB], .adc .a (.mem (.absX 0xABCD))),
     ([0x7F, 0x56, 0x34, 0x12], .adc .a (.mem (.ablX 0x123456))),
     ([0x42, 0x61, 0x12], .adc .b (.mem (.dirXInd 0x12))),
     ([0x42, 0x63, 0x34], .adc .b (.mem (.sr 0x34))),
     ([0x42, 0x65, 0x12], .adc .b (.mem (.dir 0x12))),
     ([0x42, 0x67, 0x12], .adc .b (.mem (.dirIndL 0x12))),
     ([0x42, 0x69, 0x78, 0x56], .adc .b (.imm 0x5678)),
     ([0x42, 0x6D, 0xCD, 0xAB], .adc .b (.mem (.abs 0xABCD))),
     ([0x42, 0x6F, 0x56, 0x34, 0x12], .adc .b (.mem (.abl 0x123456))),
     ([0x42, 0x71, 0x12], .adc .b (.mem (.dirIndY 0x12))),
     ([0x42, 0x72, 0x12], .adc .b (.mem (.dirInd 0x12))),
     ([0x42, 0x73, 0x34], .adc .b (.mem (.srIndY 0x34))),
     ([0x42, 0x75, 0x12], .adc .b (.mem (.dirX 0x12))),
     ([0x42, 0x77, 0x12], .adc .b (.mem (.dirIndLY 0x12))),
     ([0x42, 0x79, 0xCD, 0xAB], .adc .b (.mem (.absY 0xABCD))),
     ([0x42, 0x7D, 0xCD, 0xAB], .adc .b (.mem (.absX 0xABCD))),
     ([0x42, 0x7F, 0x56, 0x34, 0x12], .adc .b (.mem (.ablX 0x123456)))] = true := by decide

theorem test_decode_arith_sbc : agree false false
    [([0xE1, 0x12], .sbc .a (.mem (.dirXInd 0x12))),
     ([0xE3, 0x34], .sbc .a (.mem (.sr 0x34))),
     ([0xE5, 0x12], .sbc .a (.mem (.dir 0x12))),
     ([0xE7, 0x12], .sbc .a (.mem (.dirIndL 0x12))),
     ([0xE9, 0x78, 0x56], .sbc .a (.imm 0x5678)),
     ([0xED, 0xCD, 0xAB], .sbc .a (.mem (.abs 0xABCD))),
     ([0xEF, 0x56, 0x34, 0x12], .sbc .a (.mem (.abl 0x123456))),
     ([0xF1, 0x12], .sbc .a (.mem (.dirIndY 0x12))),
     ([0xF2, 0x12], .sbc .a (.mem (.dirInd 0x12))),
     ([0xF3, 0x34], .sbc .a (.mem (.srIndY 0x34))),
     ([0xF5, 0x12], .sbc .a (.mem (.dirX 0x12))),
     ([0xF7, 0x12], .sbc .a (.mem (.dirIndLY 0x12))),
     ([0xF9, 0xCD, 0xAB], .sbc .a (.mem (.absY 0xABCD))),
     ([0xFD, 0xCD, 0xAB], .sbc .a (.mem (.absX 0xABCD))),
     ([0xFF, 0x56, 0x34, 0x12], .sbc .a (.mem (.ablX 0x123456))),
     ([0x42, 0xE1, 0x12], .sbc .b (.mem (.dirXInd 0x12))),
     ([0x42, 0xE3, 0x34], .sbc .b (.mem (.sr 0x34))),
     ([0x42, 0xE5, 0x12], .sbc .b (.mem (.dir 0x12))),
     ([0x42, 0xE7, 0x12], .sbc .b (.mem (.dirIndL 0x12))),
     ([0x42, 0xE9, 0x78, 0x56], .sbc .b (.imm 0x5678)),
     ([0x42, 0xED, 0xCD, 0xAB], .sbc .b (.mem (.abs 0xABCD))),
     ([0x42, 0xEF, 0x56, 0x34, 0x12], .sbc .b (.mem (.abl 0x123456))),
     ([0x42, 0xF1, 0x12], .sbc .b (.mem (.dirIndY 0x12))),
     ([0x42, 0xF2, 0x12], .sbc .b (.mem (.dirInd 0x12))),
     ([0x42, 0xF3, 0x34], .sbc .b (.mem (.srIndY 0x34))),
     ([0x42, 0xF5, 0x12], .sbc .b (.mem (.dirX 0x12))),
     ([0x42, 0xF7, 0x12], .sbc .b (.mem (.dirIndLY 0x12))),
     ([0x42, 0xF9, 0xCD, 0xAB], .sbc .b (.mem (.absY 0xABCD))),
     ([0x42, 0xFD, 0xCD, 0xAB], .sbc .b (.mem (.absX 0xABCD))),
     ([0x42, 0xFF, 0x56, 0x34, 0x12], .sbc .b (.mem (.ablX 0x123456)))] = true := by decide

theorem test_decode_arith_cmp : agree false false
    [([0xC1, 0x12], .cmp .a (.mem (.dirXInd 0x12))),
     ([0xC3, 0x34], .cmp .a (.mem (.sr 0x34))),
     ([0xC5, 0x12], .cmp .a (.mem (.dir 0x12))),
     ([0xC7, 0x12], .cmp .a (.mem (.dirIndL 0x12))),
     ([0xC9, 0x78, 0x56], .cmp .a (.imm 0x5678)),
     ([0xCD, 0xCD, 0xAB], .cmp .a (.mem (.abs 0xABCD))),
     ([0xCF, 0x56, 0x34, 0x12], .cmp .a (.mem (.abl 0x123456))),
     ([0xD1, 0x12], .cmp .a (.mem (.dirIndY 0x12))),
     ([0xD2, 0x12], .cmp .a (.mem (.dirInd 0x12))),
     ([0xD3, 0x34], .cmp .a (.mem (.srIndY 0x34))),
     ([0xD5, 0x12], .cmp .a (.mem (.dirX 0x12))),
     ([0xD7, 0x12], .cmp .a (.mem (.dirIndLY 0x12))),
     ([0xD9, 0xCD, 0xAB], .cmp .a (.mem (.absY 0xABCD))),
     ([0xDD, 0xCD, 0xAB], .cmp .a (.mem (.absX 0xABCD))),
     ([0xDF, 0x56, 0x34, 0x12], .cmp .a (.mem (.ablX 0x123456))),
     ([0x42, 0xC1, 0x12], .cmp .b (.mem (.dirXInd 0x12))),
     ([0x42, 0xC3, 0x34], .cmp .b (.mem (.sr 0x34))),
     ([0x42, 0xC5, 0x12], .cmp .b (.mem (.dir 0x12))),
     ([0x42, 0xC7, 0x12], .cmp .b (.mem (.dirIndL 0x12))),
     ([0x42, 0xC9, 0x78, 0x56], .cmp .b (.imm 0x5678)),
     ([0x42, 0xCD, 0xCD, 0xAB], .cmp .b (.mem (.abs 0xABCD))),
     ([0x42, 0xCF, 0x56, 0x34, 0x12], .cmp .b (.mem (.abl 0x123456))),
     ([0x42, 0xD1, 0x12], .cmp .b (.mem (.dirIndY 0x12))),
     ([0x42, 0xD2, 0x12], .cmp .b (.mem (.dirInd 0x12))),
     ([0x42, 0xD3, 0x34], .cmp .b (.mem (.srIndY 0x34))),
     ([0x42, 0xD5, 0x12], .cmp .b (.mem (.dirX 0x12))),
     ([0x42, 0xD7, 0x12], .cmp .b (.mem (.dirIndLY 0x12))),
     ([0x42, 0xD9, 0xCD, 0xAB], .cmp .b (.mem (.absY 0xABCD))),
     ([0x42, 0xDD, 0xCD, 0xAB], .cmp .b (.mem (.absX 0xABCD))),
     ([0x42, 0xDF, 0x56, 0x34, 0x12], .cmp .b (.mem (.ablX 0x123456)))] = true := by decide

theorem test_decode_arith_others : agree false false
    [([0xE0, 0x78, 0x56], .cpx (.imm 0x5678)),
     ([0xE4, 0x12], .cpx (.mem (.dir 0x12))),
     ([0xEC, 0xCD, 0xAB], .cpx (.mem (.abs 0xABCD))),
     ([0xC0, 0x78, 0x56], .cpy (.imm 0x5678)),
     ([0xC4, 0x12], .cpy (.mem (.dir 0x12))),
     ([0xCC, 0xCD, 0xAB], .cpy (.mem (.abs 0xABCD))),
     ([0xE6, 0x12], .inc (.mem (.dir 0x12))),
     ([0xEE, 0xCD, 0xAB], .inc (.mem (.abs 0xABCD))),
     ([0xF6, 0x12], .inc (.mem (.dirX 0x12))),
     ([0xFE, 0xCD, 0xAB], .inc (.mem (.absX 0xABCD))),
     ([0x3A], .inc (.acc .a)),
     ([0x42, 0x3A], .inc (.acc .b)),
     ([0xC6, 0x12], .dec (.mem (.dir 0x12))),
     ([0xCE, 0xCD, 0xAB], .dec (.mem (.abs 0xABCD))),
     ([0xD6, 0x12], .dec (.mem (.dirX 0x12))),
     ([0xDE, 0xCD, 0xAB], .dec (.mem (.absX 0xABCD))),
     ([0x1A], .dec (.acc .a)),
     ([0x42, 0x1A], .dec (.acc .b)),
     ([0xE8], .inx),
     ([0xC8], .iny),
     ([0xCA], .dex),
     ([0x88], .dey)] = true := by decide

theorem test_decode_arith_and : agree false false
    [([0x21, 0x12], .and .a (.mem (.dirXInd 0x12))),
     ([0x23, 0x34], .and .a (.mem (.sr 0x34))),
     ([0x25, 0x12], .and .a (.mem (.dir 0x12))),
     ([0x27, 0x12], .and .a (.mem (.dirIndL 0x12))),
     ([0x29, 0x78, 0x56], .and .a (.imm 0x5678)),
     ([0x2D, 0xCD, 0xAB], .and .a (.mem (.abs 0xABCD))),
     ([0x2F, 0x56, 0x34, 0x12], .and .a (.mem (.abl 0x123456))),
     ([0x31, 0x12], .and .a (.mem (.dirIndY 0x12))),
     ([0x32, 0x12], .and .a (.mem (.dirInd 0x12))),
     ([0x33, 0x34], .and .a (.mem (.srIndY 0x34))),
     ([0x35, 0x12], .and .a (.mem (.dirX 0x12))),
     ([0x37, 0x12], .and .a (.mem (.dirIndLY 0x12))),
     ([0x39, 0xCD, 0xAB], .and .a (.mem (.absY 0xABCD))),
     ([0x3D, 0xCD, 0xAB], .and .a (.mem (.absX 0xABCD))),
     ([0x3F, 0x56, 0x34, 0x12], .and .a (.mem (.ablX 0x123456))),
     ([0x42, 0x21, 0x12], .and .b (.mem (.dirXInd 0x12))),
     ([0x42, 0x23, 0x34], .and .b (.mem (.sr 0x34))),
     ([0x42, 0x25, 0x12], .and .b (.mem (.dir 0x12))),
     ([0x42, 0x27, 0x12], .and .b (.mem (.dirIndL 0x12))),
     ([0x42, 0x29, 0x78, 0x56], .and .b (.imm 0x5678)),
     ([0x42, 0x2D, 0xCD, 0xAB], .and .b (.mem (.abs 0xABCD))),
     ([0x42, 0x2F, 0x56, 0x34, 0x12], .and .b (.mem (.abl 0x123456))),
     ([0x42, 0x31, 0x12], .and .b (.mem (.dirIndY 0x12))),
     ([0x42, 0x32, 0x12], .and .b (.mem (.dirInd 0x12))),
     ([0x42, 0x33, 0x34], .and .b (.mem (.srIndY 0x34))),
     ([0x42, 0x35, 0x12], .and .b (.mem (.dirX 0x12))),
     ([0x42, 0x37, 0x12], .and .b (.mem (.dirIndLY 0x12))),
     ([0x42, 0x39, 0xCD, 0xAB], .and .b (.mem (.absY 0xABCD))),
     ([0x42, 0x3D, 0xCD, 0xAB], .and .b (.mem (.absX 0xABCD))),
     ([0x42, 0x3F, 0x56, 0x34, 0x12], .and .b (.mem (.ablX 0x123456)))] = true := by decide

theorem test_decode_arith_ora : agree false false
    [([0x01, 0x12], .ora .a (.mem (.dirXInd 0x12))),
     ([0x03, 0x34], .ora .a (.mem (.sr 0x34))),
     ([0x05, 0x12], .ora .a (.mem (.dir 0x12))),
     ([0x07, 0x12], .ora .a (.mem (.dirIndL 0x12))),
     ([0x09, 0x78, 0x56], .ora .a (.imm 0x5678)),
     ([0x0D, 0xCD, 0xAB], .ora .a (.mem (.abs 0xABCD))),
     ([0x0F, 0x56, 0x34, 0x12], .ora .a (.mem (.abl 0x123456))),
     ([0x11, 0x12], .ora .a (.mem (.dirIndY 0x12))),
     ([0x12, 0x12], .ora .a (.mem (.dirInd 0x12))),
     ([0x13, 0x34], .ora .a (.mem (.srIndY 0x34))),
     ([0x15, 0x12], .ora .a (.mem (.dirX 0x12))),
     ([0x17, 0x12], .ora .a (.mem (.dirIndLY 0x12))),
     ([0x19, 0xCD, 0xAB], .ora .a (.mem (.absY 0xABCD))),
     ([0x1D, 0xCD, 0xAB], .ora .a (.mem (.absX 0xABCD))),
     ([0x1F, 0x56, 0x34, 0x12], .ora .a (.mem (.ablX 0x123456))),
     ([0x42, 0x01, 0x12], .ora .b (.mem (.dirXInd 0x12))),
     ([0x42, 0x03, 0x34], .ora .b (.mem (.sr 0x34))),
     ([0x42, 0x05, 0x12], .ora .b (.mem (.dir 0x12))),
     ([0x42, 0x07, 0x12], .ora .b (.mem (.dirIndL 0x12))),
     ([0x42, 0x09, 0x78, 0x56], .ora .b (.imm 0x5678)),
     ([0x42, 0x0D, 0xCD, 0xAB], .ora .b (.mem (.abs 0xABCD))),
     ([0x42, 0x0F, 0x56, 0x34, 0x12], .ora .b (.mem (.abl 0x123456))),
     ([0x42, 0x11, 0x12], .ora .b (.mem (.dirIndY 0x12))),
     ([0x42, 0x12, 0x12], .ora .b (.mem (.dirInd 0x12))),
     ([0x42, 0x13, 0x34], .ora .b (.mem (.srIndY 0x34))),
     ([0x42, 0x15, 0x12], .ora .b (.mem (.dirX 0x12))),
     ([0x42, 0x17, 0x12], .ora .b (.mem (.dirIndLY 0x12))),
     ([0x42, 0x19, 0xCD, 0xAB], .ora .b (.mem (.absY 0xABCD))),
     ([0x42, 0x1D, 0xCD, 0xAB], .ora .b (.mem (.absX 0xABCD))),
     ([0x42, 0x1F, 0x56, 0x34, 0x12], .ora .b (.mem (.ablX 0x123456)))] = true := by decide

theorem test_decode_arith_eor : agree false false
    [([0x41, 0x12], .eor .a (.mem (.dirXInd 0x12))),
     ([0x43, 0x34], .eor .a (.mem (.sr 0x34))),
     ([0x45, 0x12], .eor .a (.mem (.dir 0x12))),
     ([0x47, 0x12], .eor .a (.mem (.dirIndL 0x12))),
     ([0x49, 0x78, 0x56], .eor .a (.imm 0x5678)),
     ([0x4D, 0xCD, 0xAB], .eor .a (.mem (.abs 0xABCD))),
     ([0x4F, 0x56, 0x34, 0x12], .eor .a (.mem (.abl 0x123456))),
     ([0x51, 0x12], .eor .a (.mem (.dirIndY 0x12))),
     ([0x52, 0x12], .eor .a (.mem (.dirInd 0x12))),
     ([0x53, 0x34], .eor .a (.mem (.srIndY 0x34))),
     ([0x55, 0x12], .eor .a (.mem (.dirX 0x12))),
     ([0x57, 0x12], .eor .a (.mem (.dirIndLY 0x12))),
     ([0x59, 0xCD, 0xAB], .eor .a (.mem (.absY 0xABCD))),
     ([0x5D, 0xCD, 0xAB], .eor .a (.mem (.absX 0xABCD))),
     ([0x5F, 0x56, 0x34, 0x12], .eor .a (.mem (.ablX 0x123456))),
     ([0x42, 0x41, 0x12], .eor .b (.mem (.dirXInd 0x12))),
     ([0x42, 0x43, 0x34], .eor .b (.mem (.sr 0x34))),
     ([0x42, 0x45, 0x12], .eor .b (.mem (.dir 0x12))),
     ([0x42, 0x47, 0x12], .eor .b (.mem (.dirIndL 0x12))),
     ([0x42, 0x49, 0x78, 0x56], .eor .b (.imm 0x5678)),
     ([0x42, 0x4D, 0xCD, 0xAB], .eor .b (.mem (.abs 0xABCD))),
     ([0x42, 0x4F, 0x56, 0x34, 0x12], .eor .b (.mem (.abl 0x123456))),
     ([0x42, 0x51, 0x12], .eor .b (.mem (.dirIndY 0x12))),
     ([0x42, 0x52, 0x12], .eor .b (.mem (.dirInd 0x12))),
     ([0x42, 0x53, 0x34], .eor .b (.mem (.srIndY 0x34))),
     ([0x42, 0x55, 0x12], .eor .b (.mem (.dirX 0x12))),
     ([0x42, 0x57, 0x12], .eor .b (.mem (.dirIndLY 0x12))),
     ([0x42, 0x59, 0xCD, 0xAB], .eor .b (.mem (.absY 0xABCD))),
     ([0x42, 0x5D, 0xCD, 0xAB], .eor .b (.mem (.absX 0xABCD))),
     ([0x42, 0x5F, 0x56, 0x34, 0x12], .eor .b (.mem (.ablX 0x123456)))] = true := by decide

theorem test_decode_shift_others : agree false false
    [([0x06, 0x12], .asl (.mem (.dir 0x12))),
     ([0x0E, 0xCD, 0xAB], .asl (.mem (.abs 0xABCD))),
     ([0x16, 0x12], .asl (.mem (.dirX 0x12))),
     ([0x1E, 0xCD, 0xAB], .asl (.mem (.absX 0xABCD))),
     ([0x0A], .asl (.acc .a)),
     ([0x42, 0x0A], .asl (.acc .b)),
     ([0x46, 0x12], .lsr (.mem (.dir 0x12))),
     ([0x4E, 0xCD, 0xAB], .lsr (.mem (.abs 0xABCD))),
     ([0x56, 0x12], .lsr (.mem (.dirX 0x12))),
     ([0x5E, 0xCD, 0xAB], .lsr (.mem (.absX 0xABCD))),
     ([0x4A], .lsr (.acc .a)),
     ([0x42, 0x4A], .lsr (.acc .b)),
     ([0x26, 0x12], .rol (.mem (.dir 0x12))),
     ([0x2E, 0xCD, 0xAB], .rol (.mem (.abs 0xABCD))),
     ([0x36, 0x12], .rol (.mem (.dirX 0x12))),
     ([0x3E, 0xCD, 0xAB], .rol (.mem (.absX 0xABCD))),
     ([0x2A], .rol (.acc .a)),
     ([0x42, 0x2A], .rol (.acc .b)),
     ([0x66, 0x12], .ror (.mem (.dir 0x12))),
     ([0x6E, 0xCD, 0xAB], .ror (.mem (.abs 0xABCD))),
     ([0x76, 0x12], .ror (.mem (.dirX 0x12))),
     ([0x7E, 0xCD, 0xAB], .ror (.mem (.absX 0xABCD))),
     ([0x6A], .ror (.acc .a)),
     ([0x42, 0x6A], .ror (.acc .b)),
     ([0x89, 0x49, 0x78, 0x56], .rla 0x5678)] = true := by decide

theorem test_decode_mulDiv_mpy : agree false false
    [([0x89, 0x01, 0x12], .mpy (.mem (.dirXInd 0x12))),
     ([0x89, 0x03, 0x34], .mpy (.mem (.sr 0x34))),
     ([0x89, 0x05, 0x12], .mpy (.mem (.dir 0x12))),
     ([0x89, 0x07, 0x12], .mpy (.mem (.dirIndL 0x12))),
     ([0x89, 0x09, 0x78, 0x56], .mpy (.imm 0x5678)),
     ([0x89, 0x0D, 0xCD, 0xAB], .mpy (.mem (.abs 0xABCD))),
     ([0x89, 0x0F, 0x56, 0x34, 0x12], .mpy (.mem (.abl 0x123456))),
     ([0x89, 0x11, 0x12], .mpy (.mem (.dirIndY 0x12))),
     ([0x89, 0x12, 0x12], .mpy (.mem (.dirInd 0x12))),
     ([0x89, 0x13, 0x34], .mpy (.mem (.srIndY 0x34))),
     ([0x89, 0x15, 0x12], .mpy (.mem (.dirX 0x12))),
     ([0x89, 0x17, 0x12], .mpy (.mem (.dirIndLY 0x12))),
     ([0x89, 0x19, 0xCD, 0xAB], .mpy (.mem (.absY 0xABCD))),
     ([0x89, 0x1D, 0xCD, 0xAB], .mpy (.mem (.absX 0xABCD))),
     ([0x89, 0x1F, 0x56, 0x34, 0x12], .mpy (.mem (.ablX 0x123456)))] = true := by decide

theorem test_decode_mulDiv_div : agree false false
    [([0x89, 0x21, 0x12], .div (.mem (.dirXInd 0x12))),
     ([0x89, 0x23, 0x34], .div (.mem (.sr 0x34))),
     ([0x89, 0x25, 0x12], .div (.mem (.dir 0x12))),
     ([0x89, 0x27, 0x12], .div (.mem (.dirIndL 0x12))),
     ([0x89, 0x29, 0x78, 0x56], .div (.imm 0x5678)),
     ([0x89, 0x2D, 0xCD, 0xAB], .div (.mem (.abs 0xABCD))),
     ([0x89, 0x2F, 0x56, 0x34, 0x12], .div (.mem (.abl 0x123456))),
     ([0x89, 0x31, 0x12], .div (.mem (.dirIndY 0x12))),
     ([0x89, 0x32, 0x12], .div (.mem (.dirInd 0x12))),
     ([0x89, 0x33, 0x34], .div (.mem (.srIndY 0x34))),
     ([0x89, 0x35, 0x12], .div (.mem (.dirX 0x12))),
     ([0x89, 0x37, 0x12], .div (.mem (.dirIndLY 0x12))),
     ([0x89, 0x39, 0xCD, 0xAB], .div (.mem (.absY 0xABCD))),
     ([0x89, 0x3D, 0xCD, 0xAB], .div (.mem (.absX 0xABCD))),
     ([0x89, 0x3F, 0x56, 0x34, 0x12], .div (.mem (.ablX 0x123456)))] = true := by decide

theorem test_decode_branch_others : agree false false
    [([0x90, 0xFE], .bcc 0xFE),
     ([0xB0, 0xFE], .bcs 0xFE),
     ([0xF0, 0xFE], .beq 0xFE),
     ([0x30, 0xFE], .bmi 0xFE),
     ([0xD0, 0xFE], .bne 0xFE),
     ([0x10, 0xFE], .bpl 0xFE),
     ([0x50, 0xFE], .bvc 0xFE),
     ([0x70, 0xFE], .bvs 0xFE),
     ([0x80, 0xFE], .bra (.short 0xFE)),
     ([0x82, 0xCD, 0xAB], .bra (.long 0xABCD)),
     ([0x24, 0x12, 0x78, 0x56, 0xFE], .bbs (.dir 0x12) 0x5678 0xFE),
     ([0x2C, 0xCD, 0xAB, 0x78, 0x56, 0xFE], .bbs (.abs 0xABCD) 0x5678 0xFE),
     ([0x34, 0x12, 0x78, 0x56, 0xFE], .bbc (.dir 0x12) 0x5678 0xFE),
     ([0x3C, 0xCD, 0xAB, 0x78, 0x56, 0xFE], .bbc (.abs 0xABCD) 0x5678 0xFE),
     ([0x4C, 0xCD, 0xAB], .jmp (.abs 0xABCD)),
     ([0x5C, 0x56, 0x34, 0x12], .jmp (.abl 0x123456)),
     ([0x6C, 0xCD, 0xAB], .jmp (.absInd 0xABCD)),
     ([0x7C, 0xCD, 0xAB], .jmp (.absXInd 0xABCD)),
     ([0xDC, 0xCD, 0xAB], .jmp (.absIndL 0xABCD)),
     ([0x20, 0xCD, 0xAB], .jsr (.abs 0xABCD)),
     ([0x22, 0x56, 0x34, 0x12], .jsr (.abl 0x123456)),
     ([0xFC, 0xCD, 0xAB], .jsr (.absXInd 0xABCD)),
     ([0x60], .rts),
     ([0x6B], .rtl)] = true := by decide

theorem test_decode_stack_others : agree false false
    [([0x48], .pha),
     ([0x42, 0x48], .phb),
     ([0x0B], .phd),
     ([0x4B], .phg),
     ([0x08], .php),
     ([0x8B], .pht),
     ([0xDA], .phx),
     ([0x5A], .phy),
     ([0x68], .pla),
     ([0x42, 0x68], .plb),
     ([0x2B], .pld),
     ([0x28], .plp),
     ([0xAB], .plt),
     ([0xFA], .plx),
     ([0x7A], .ply),
     ([0xF4, 0xCD, 0xAB], .pea 0xABCD),
     ([0xD4, 0x12], .pei 0x12),
     ([0x62, 0xCD, 0xAB], .per 0xABCD),
     ([0xEB, 0x34], .psh 0x34),
     ([0xFB, 0x34], .pul 0x34)] = true := by decide

theorem test_decode_transfer_others : agree false false
    [([0x5B], .tad),
     ([0x42, 0x5B], .tbd),
     ([0x1B], .tas),
     ([0x42, 0x1B], .tbs),
     ([0xAA], .tax),
     ([0xA8], .tay),
     ([0x42, 0xAA], .tbx),
     ([0x42, 0xA8], .tby),
     ([0x7B], .tda),
     ([0x42, 0x7B], .tdb),
     ([0x3B], .tsa),
     ([0x42, 0x3B], .tsb),
     ([0xBA], .tsx),
     ([0x8A], .txa),
     ([0x42, 0x8A], .txb),
     ([0x9A], .txs),
     ([0x9B], .txy),
     ([0x98], .tya),
     ([0x42, 0x98], .tyb),
     ([0xBB], .tyx),
     ([0x89, 0x28], .xab)] = true := by decide

theorem test_decode_flagBit_others : agree false false
    [([0x18], .clc),
     ([0x58], .cli),
     ([0xD8], .clm),
     ([0xB8], .clv),
     ([0xC2, 0x56], .clp 0x56),
     ([0x38], .sec),
     ([0x78], .sei),
     ([0xF8], .sem),
     ([0xE2, 0x56], .sep 0x56),
     ([0x04, 0x12, 0x78, 0x56], .seb (.dir 0x12) 0x5678),
     ([0x0C, 0xCD, 0xAB, 0x78, 0x56], .seb (.abs 0xABCD) 0x5678),
     ([0x14, 0x12, 0x78, 0x56], .clb (.dir 0x12) 0x5678),
     ([0x1C, 0xCD, 0xAB, 0x78, 0x56], .clb (.abs 0xABCD) 0x5678)] = true := by decide

theorem test_decode_block_others : agree false false
    [([0x54, 0x01, 0x02], .mvn 0x01 0x02),
     ([0x44, 0x01, 0x02], .mvp 0x01 0x02),
     ([0xEA], .nop)] = true := by decide

theorem test_decode_system_others : agree false false
    [([0x00, 0x34], .brk 0x34),
     ([0x40], .rti),
     ([0xDB], .stp),
     ([0xCB], .wit)] = true := by decide

theorem test_decode_narrow_m0 : agree true true
    [([0x04, 0x12, 0x78], .seb (.dir 0x12) 0x78),
     ([0x09, 0x78], .ora .a (.imm 0x78)),
     ([0x0C, 0xCD, 0xAB, 0x78], .seb (.abs 0xABCD) 0x78),
     ([0x14, 0x12, 0x78], .clb (.dir 0x12) 0x78),
     ([0x1C, 0xCD, 0xAB, 0x78], .clb (.abs 0xABCD) 0x78),
     ([0x24, 0x12, 0x78, 0xFE], .bbs (.dir 0x12) 0x78 0xFE),
     ([0x29, 0x78], .and .a (.imm 0x78)),
     ([0x2C, 0xCD, 0xAB, 0x78, 0xFE], .bbs (.abs 0xABCD) 0x78 0xFE),
     ([0x34, 0x12, 0x78, 0xFE], .bbc (.dir 0x12) 0x78 0xFE),
     ([0x3C, 0xCD, 0xAB, 0x78, 0xFE], .bbc (.abs 0xABCD) 0x78 0xFE),
     ([0x49, 0x78], .eor .a (.imm 0x78)),
     ([0x64, 0x12, 0x78], .ldm (.dir 0x12) 0x78),
     ([0x69, 0x78], .adc .a (.imm 0x78)),
     ([0x74, 0x12, 0x78], .ldm (.dirX 0x12) 0x78),
     ([0x9C, 0xCD, 0xAB, 0x78], .ldm (.abs 0xABCD) 0x78),
     ([0x9E, 0xCD, 0xAB, 0x78], .ldm (.absX 0xABCD) 0x78),
     ([0xA9, 0x78], .lda .a (.imm 0x78)),
     ([0xC9, 0x78], .cmp .a (.imm 0x78)),
     ([0xE9, 0x78], .sbc .a (.imm 0x78)),
     ([0x42, 0x09, 0x78], .ora .b (.imm 0x78))] = true := by decide

theorem test_decode_narrow_m1 : agree true true
    [([0x42, 0x29, 0x78], .and .b (.imm 0x78)),
     ([0x42, 0x49, 0x78], .eor .b (.imm 0x78)),
     ([0x42, 0x69, 0x78], .adc .b (.imm 0x78)),
     ([0x42, 0xA9, 0x78], .lda .b (.imm 0x78)),
     ([0x42, 0xC9, 0x78], .cmp .b (.imm 0x78)),
     ([0x42, 0xE9, 0x78], .sbc .b (.imm 0x78)),
     ([0x89, 0x09, 0x78], .mpy (.imm 0x78)),
     ([0x89, 0x29, 0x78], .div (.imm 0x78)),
     ([0x89, 0x49, 0x78], .rla 0x78)] = true := by decide

theorem test_decode_narrow_x0 : agree true true
    [([0xA0, 0x78], .ldy (.imm 0x78)),
     ([0xA2, 0x78], .ldx (.imm 0x78)),
     ([0xC0, 0x78], .cpy (.imm 0x78)),
     ([0xE0, 0x78], .cpx (.imm 0x78))] = true := by decide

end Sys2Proof.Tests
end

