-- ==== Sys2Proof/Tests/Steps.lean ====
section
/-! SUPPORT. Tests of single steps, at most two per instruction. The comment before each names the vector of
spec/95_test_vectors.md (or the rule) its expected values are taken from. -/

namespace Sys2Proof.Tests

open Sys2Proof.Machine

/-- The machine after reset, about to run at 00:8000. -/
def start : State := { State.reset with pc := 0x8000 }

/-- Memory with these bytes listed. -/
def cells : List (Addr × Byte) → Memory
  | [] => Memory.empty
  | (a, v) :: rest => (cells rest).set a v

/-- One step with these bytes placed at PG:PC. -/
def running (code : List Byte) (s : State) : Result := step { s with mem := s.mem.place s.pcAddr code }

/-- What is seen of the next state, if there is one. -/
def ended {α : Type} (r : Result) (f : State → α) : Option α :=
  match r with
  | .next t => some (f t)
  | .fault _ => none
  | .refused _ => none

/-- Why a step was refused, if it was. -/
def refusal : Result → Option Refusal
  | .next _ => none
  | .fault _ => none
  | .refused r => some r

/-- Why a step faulted, if it did. -/
def faulted : Result → Option Fault
  | .next _ => none
  | .fault f => some f
  | .refused _ => none


/-! Effective addresses -/

-- E1, E2, E3
theorem test_direct :
    ({ start with dpr := 0xFFF0 } : State).ea (.dir 0x20) = .ok 0x010010 ∧
    ({ start with dpr := 0xFFFF, x := 0xFFFF } : State).ea (.dirX 0xFF) = .ok 0x0200FD ∧
    ({ start with dpr := 0x0100, x := 0x12FF, ps := PS.ofBytes 0 0x10 } : State).ea (.dirX 0x10) = .ok 0x00020F := by decide

/-- The memory of vectors E4 to E8. -/
def pointers : State :=
  { start with dpr := 0x0100, dt := 0x12,
               mem := cells [(0x110, 0x00), (0x111, 0x80), (0x114, 0x34), (0x115, 0x12)] }

-- E4, E5, E6
theorem test_indirect :
    pointers.ea (.dirInd 0x10) = .ok 0x128000 ∧ ({ pointers with x := 4 } : State).ea (.dirXInd 0x10) = .ok 0x121234 ∧
    ({ pointers with y := 0x9000 } : State).ea (.dirIndY 0x10) = .ok 0x131000 := by decide

-- E7, E8
theorem test_indirect_long :
    let s : State := { start with dpr := 0x0100, mem := cells [(0x110, 0x56), (0x111, 0x34), (0x112, 0x12)] }
    s.ea (.dirIndL 0x10) = .ok 0x123456 ∧ ({ s with y := 0xFFFF } : State).ea (.dirIndLY 0x10) = .ok 0x133455 := by decide

-- E9, E10, E11
theorem test_absolute :
    ({ start with dt := 0x7E } : State).ea (.abs 0x1234) = .ok 0x7E1234 ∧
    ({ start with dt := 0xFF, x := 1 } : State).ea (.absX 0xFFFF) = .ok 0x000000 ∧
    ({ start with y := 0xAB80, ps := PS.ofBytes 0 0x10 } : State).ea (.absY 0x1000) = .ok 0x001080 := by decide

-- E12, E13
theorem test_absolute_long :
    ({ start with dt := 0x7E } : State).ea (.abl 0x123456) = .ok 0x123456 ∧
    ({ start with x := 2 } : State).ea (.ablX 0x01FFFF) = .ok 0x020001 := by decide

-- E14, E15
theorem test_stack_relative :
    ({ start with sp := 0x01F0 } : State).ea (.sr 0x03) = .ok 0x0001F3 ∧
    ({ start with sp := 0x01F0, dt := 2, y := 0x10, mem := cells [(0x1F3, 0x00), (0x1F4, 0x40)] } : State).ea (.srIndY 0x03) =
      .ok 0x024010 := by decide

-- E17
theorem test_data_crosses_bank :
    ({ start with mem := cells [(0x00FFFF, 0x34), (0x010000, 0x12)] } : State).operand .w16
      (.mem (.abs 0xFFFF)) = .ok 0x1234 := by decide

/-! One instruction after another -/

-- L1
theorem test_lda_L1 : ended (running [0xA9, 0x80] { start with a := 0x1234, ps := PS.ofBytes 0 0x20 }) (fun t =>
      (t.a, t.ps.n, t.ps.z)) = some (0x1280, true, false) := by decide

-- L4
theorem test_lda_L4 :
    ended (running [0xAD, 0x00, 0x20]
      { start with dt := 1, ps := PS.ofBytes 0 0x00, mem := cells [(0x012000, 0xCD), (0x012001, 0xAB)] }) (fun t =>
      (t.a, t.ps.n)) = some (0xABCD, true) := by decide

-- L6
theorem test_ldm_L6 :
    ended (running [0x9C, 0x00, 0x20, 0x34, 0x12] { start with dt := 1, ps := PS.ofBytes 0 0x00 }) (fun t =>
      (t.mem.get 0x012000, t.mem.get 0x012001)) = some (0x34, 0x12) := by decide

-- L5, with FE for FF
theorem test_ldm_L5 :
    ended (running [0x64, 0x10, 0xFE] { start with ps := PS.ofBytes 0 0x20, mem := cells [(0x000011, 0x77)] }) (fun t =>
      (t.mem.get 0x000010, t.mem.get 0x000011)) = some (0xFE, 0x77) := by decide

-- L7
theorem test_ldt_L7 : ended (running [0x89, 0xC2, 0x02] { start with ps := PS.ofBytes 0x00 0xFF }) (fun t =>
      (t.dt, t.ps.low)) = some (0x02, 0xFF) := by decide

-- L9
theorem test_ldx_L9 : ended (running [0xA2, 0x80] { start with x := 0x1234, ps := PS.ofBytes 0x00 0x10 }) (fun t =>
      (t.x, t.ps.n, t.ps.z)) = some (0x1280, true, false) := by decide

-- L10
theorem test_ldy_L10 : ended (running [0xA0, 0x00] { start with y := 0xFF11, ps := PS.ofBytes 0x00 0x10 }) (fun t =>
      (t.y, t.ps.z, t.ps.n)) = some (0xFF00, true, false) := by decide

-- L11
theorem test_sta_L11 :
    ended (running [0x8D, 0x00, 0x10] { start with a := 0x1234, ps := PS.ofBytes 0 0x00 }) (fun t =>
      (t.mem.get 0x001000, t.mem.get 0x001001)) = some (0x34, 0x12) := by decide

-- L12
theorem test_sta_L12 :
    ended (running [0x8D, 0x00, 0x10]
      { start with a := 0x1234, ps := PS.ofBytes 0 0x20, mem := cells [(0x001001, 0x77)] }) (fun t =>
      (t.mem.get 0x001000, t.mem.get 0x001001)) = some (0x34, 0x77) := by decide

-- L13
theorem test_stx_L13 :
    ended (running [0x86, 0x20] { start with x := 0x12AB, dpr := 0x0100, ps := PS.ofBytes 0x00 0x10 }) (fun t =>
      (t.mem.get 0x000120, t.mem.get 0x000121)) = some (0xAB, 0xFF) := by decide

-- L14
theorem test_sty_L14 :
    ended (running [0x8C, 0xFF, 0xFF] { start with y := 0xBEEF, dt := 0x7E, ps := PS.ofBytes 0 0x00 }) (fun t =>
      (t.mem.get 0x7EFFFF, t.mem.get 0x7F0000)) = some (0xEF, 0xBE) := by decide

-- A2
theorem test_adc_A2 : ended (running [0x69, 0x01] { start with a := 0x557F, ps := PS.ofBytes 0 0x20 }) (fun t =>
      (t.a, t.ps.low)) = some (0x5580, 0xE0) := by decide

-- A6
theorem test_adc_A6 : ended (running [0x69, 0x01] { start with a := 0x0099, ps := PS.ofBytes 0x00 0x28 }) (fun t =>
      (t.a, t.ps.c)) = some (0x0000, true) := by decide

-- A11
theorem test_sbc_A11 : ended (running [0xE9, 0x01] { start with a := 0x0080, ps := PS.ofBytes 0x00 0x21 }) (fun t =>
      (t.a, t.ps.c, t.ps.v, t.ps.n)) = some (0x007F, true, true, false) := by decide

-- A14
theorem test_sbc_A14 : ended (running [0xE9, 0x01] { start with a := 0x0000, ps := PS.ofBytes 0x00 0x29 }) (fun t =>
      (t.a, t.ps.c, t.ps.z)) = some (0x0099, false, false) := by decide

-- A16, with V set
theorem test_cmp_A16 : ended (running [0xC9, 0x20] { start with a := 0x0010, ps := PS.ofBytes 0x00 0x61 }) (fun t =>
      (t.a, t.ps.low)) = some (0x0010, 0xE0) := by decide

-- A17
theorem test_cpx_A17 :
    ended (running [0xE0, 0x00, 0x01] { start with x := 0x0100, ps := PS.ofBytes 0 0x00 }) (fun t =>
      (t.ps.z, t.ps.c, t.ps.n)) = some (true, true, false) := by decide

-- A18
theorem test_cpy_A18 : ended (running [0xC0, 0x06] { start with y := 0x0005, ps := PS.ofBytes 0x00 0x10 }) (fun t =>
      (t.ps.n, t.ps.z, t.ps.c)) = some (true, false, false) := by decide

-- A19, with C and V set
theorem test_and_A19 : ended (running [0x29, 0x0F] { start with a := 0x00F0, ps := PS.ofBytes 0x00 0x61 }) (fun t =>
      (t.a, t.ps.low)) = some (0x0000, 0x63) := by decide

-- A20
theorem test_ora_A20 :
    ended (running [0x09, 0x0F, 0x80] { start with a := 0x00F0, ps := PS.ofBytes 0 0x00 }) (fun t =>
      (t.a, t.ps.n, t.ps.z)) = some (0x80FF, true, false) := by decide

-- A21
theorem test_eor_A21 : ended (running [0x49, 0xFF] { start with a := 0x00FF, ps := PS.ofBytes 0 0x20 }) (fun t =>
      (t.a, t.ps.z, t.ps.n)) = some (0x0000, true, false) := by decide

-- A22
theorem test_inc_A22 : ended (running [0x3A] { start with a := 0x7FFF, ps := PS.ofBytes 0 0x00 }) (fun t =>
      (t.a, t.ps.low)) = some (0x8000, 0x80) := by decide

-- A23
theorem test_inc_A23 : ended (running [0x42, 0x3A] { start with b := 0x12FF, ps := PS.ofBytes 0 0x20 }) (fun t =>
      (t.b, t.ps.z, t.ps.n)) = some (0x1200, true, false) := by decide

-- A24
theorem test_dec_A24 :
    ended (running [0xC6, 0x40] { start with ps := PS.ofBytes 0 0x20, mem := cells [(0x000040, 0x00)] }) (fun t =>
      (t.mem.get 0x000040, t.ps.n, t.ps.z)) = some (0xFF, true, false) := by decide

-- A25
theorem test_inx_A25 : ended (running [0xE8] { start with x := 0xFFFF, ps := PS.ofBytes 0 0x00 }) (fun t =>
      (t.x, t.ps.low)) = some (0x0000, 0x02) := by decide

-- A26
theorem test_dex_A26 : ended (running [0xCA] { start with x := 0x1200, ps := PS.ofBytes 0x00 0x10 }) (fun t =>
      (t.x, t.ps.n, t.ps.z)) = some (0x12FF, true, false) := by decide

-- A27
theorem test_iny_A27 : ended (running [0xC8] { start with y := 0x00FF, ps := PS.ofBytes 0x00 0x10 }) (fun t =>
      (t.y, t.ps.z, t.ps.n)) = some (0x0000, true, false) := by decide

-- A28
theorem test_dey_A28 : ended (running [0x88] { start with y := 0x0000, ps := PS.ofBytes 0 0x00 }) (fun t =>
      (t.y, t.ps.n, t.ps.z)) = some (0xFFFF, true, false) := by decide

-- H1
theorem test_asl_H1 : ended (running [0x0A] { start with a := 0x3381, ps := PS.ofBytes 0 0x20 }) (fun t =>
      (t.a, t.ps.low)) = some (0x3302, 0x21) := by decide

-- H3
theorem test_asl_H3 :
    ended (running [0x06, 0x20]
      { start with ps := PS.ofBytes 0 0x00, mem := cells [(0x000020, 0x01), (0x000021, 0x40)] }) (fun t =>
      (t.mem.get 0x000020, t.mem.get 0x000021, t.ps.low)) = some (0x02, 0x80, 0x80) := by decide

-- H5
theorem test_lsr_H5 : ended (running [0x4A] { start with a := 0x8000, ps := PS.ofBytes 0x00 0x01 }) (fun t =>
      (t.a, t.ps.low)) = some (0x4000, 0x00) := by decide

-- H7
theorem test_rol_H7 : ended (running [0x2A] { start with a := 0x0000, ps := PS.ofBytes 0x00 0x21 }) (fun t =>
      (t.a, t.ps.low)) = some (0x0001, 0x20) := by decide

-- H8
theorem test_ror_H8 : ended (running [0x6A] { start with a := 0x0001, ps := PS.ofBytes 0x00 0x01 }) (fun t =>
      (t.a, t.ps.low)) = some (0x8000, 0x81) := by decide

-- H9
theorem test_ror_H9 : ended (running [0x42, 0x6A] { start with b := 0xAA01, ps := PS.ofBytes 0x00 0x20 }) (fun t =>
      (t.b, t.ps.low)) = some (0xAA00, 0x23) := by decide

-- H10
theorem test_rla_H10 :
    ended (running [0x89, 0x49, 0x04, 0x00] { start with a := 0x8001, ps := PS.ofBytes 0x00 0xC3 }) (fun t =>
      (t.a, t.ps.low)) = some (0x0018, 0xC3) := by decide

-- H12
theorem test_rla_H12 :
    ended (running [0x89, 0x49, 0x08] { start with a := 0x0081, ps := PS.ofBytes 0 0x20 }) (fun t =>
      (t.a, t.cycles)) = some (0x0081, 14) := by decide

-- M1
theorem test_mpy_M1 :
    ended (running [0x89, 0x09, 0xFF] { start with a := 0x11FF, b := 0x2200, ps := PS.ofBytes 0 0x20 }) (fun t =>
      (t.a, t.b, t.ps.n, t.ps.z)) = some (0x1101, 0x22FE, true, false) := by decide

-- M3
theorem test_mpy_M3 :
    ended (running [0x89, 0x09, 0xFF, 0xFF] { start with a := 0xFFFF, ps := PS.ofBytes 0 0x00 }) (fun t =>
      (t.a, t.b, t.ps.n, t.ps.z)) = some (0x0001, 0xFFFE, true, false) := by decide

-- M5
theorem test_div_M5 :
    ended (running [0x89, 0x29, 0x03] { start with a := 0x0000, b := 0x0001, ps := PS.ofBytes 0 0x20 }) (fun t =>
      (t.a, t.b)) = some (0x0055, 0x0001) := by decide

-- M7
theorem test_div_M7 :
    ended (running [0x89, 0x29, 0x02, 0x00] { start with a := 0x0000, b := 0x0001, ps := PS.ofBytes 0 0x00 }) (fun t =>
      (t.a, t.b)) = some (0x8000, 0x0000) := by decide

-- B1
theorem test_bcc_B1 : ended (running [0x90, 0x10] { start with ps := PS.ofBytes 0 0x00, pc := 0x1000 }) (fun t =>
      (t.pcAddr, t.cycles)) = some (0x001012, 6) := by decide

-- B2
theorem test_bcc_B2 : ended (running [0x90, 0x10] { start with ps := PS.ofBytes 0x00 0x01, pc := 0x1000 }) (fun t =>
      (t.pcAddr, t.cycles)) = some (0x001002, 4) := by decide

-- B3
theorem test_bne_B3 : ended (running [0xD0, 0xFB] { start with ps := PS.ofBytes 0 0x00, pc := 0x200A }) (fun t =>
      t.pcAddr) = some 0x002007 := by decide

-- B4
theorem test_bmi_B4 : ended (running [0x30, 0x7F] { start with ps := PS.ofBytes 0x00 0x80, pc := 0x1000 }) (fun t =>
      t.pcAddr) = some 0x001081 := by decide

-- B5
theorem test_bvc_B5 : ended (running [0x50, 0x05] { start with ps := PS.ofBytes 0x00 0x40, pc := 0x1000 }) (fun t =>
      t.pcAddr) = some 0x001002 := by decide

-- E20
theorem test_bra_E20 :
    ended (running [0x80, 0x80] { start with ps := PS.ofBytes 0 0x00, pg := 0x01, pc := 0x0000 }) (fun t =>
      (t.pcAddr, t.cycles)) = some (0x00FF82, 4) := by decide

-- E19
theorem test_bra_E19 :
    ended (running [0x82, 0xFD, 0xFF] { start with ps := PS.ofBytes 0 0x00, pg := 0x02, pc := 0x0000 }) (fun t =>
      t.pcAddr) = some 0x020000 := by decide

-- B7
theorem test_bbs_B7 :
    ended (running [0x24, 0x20, 0x81, 0x05]
      { start with ps := PS.ofBytes 0 0x20, mem := cells [(0x000020, 0x81)], pc := 0x1000 }) (fun t =>
      t.pcAddr) = some 0x001009 := by decide

-- B8
theorem test_bbs_B8 :
    ended (running [0x24, 0x20, 0x82, 0x05]
      { start with ps := PS.ofBytes 0 0x20, mem := cells [(0x000020, 0x81)], pc := 0x1000 }) (fun t =>
      t.pcAddr) = some 0x001004 := by decide

-- B9
theorem test_bbc_B9 :
    ended (running [0x3C, 0x00, 0x20, 0xFF, 0x00, 0x10]
      { start with ps := PS.ofBytes 0 0x00, mem := cells [(0x002000, 0x00), (0x002001, 0x01)], pc := 0x1000 }) (fun t =>
      t.pcAddr) = some 0x001016 := by decide

-- B10
theorem test_bbc_B10 :
    ended (running [0x34, 0x20, 0x01, 0x05]
      { start with ps := PS.ofBytes 0 0x20, mem := cells [(0x000020, 0x81)], pc := 0x1000 }) (fun t =>
      t.pcAddr) = some 0x001004 := by decide

-- B13
theorem test_jmp_B13 :
    ended (running [0x6C, 0x34, 0x12]
      { start with ps := PS.ofBytes 0 0x00, mem := cells [(0x001234, 0x00), (0x001235, 0x90)], pg := 0x02, pc :=
                   0x1000 }) (fun t =>
      t.pcAddr) = some 0x029000 := by decide

-- B15
theorem test_jmp_B15 :
    ended (running [0x7C, 0x34, 0x12]
      { start with x := 0x0002, ps := PS.ofBytes 0 0x00, mem := cells [(0x021236, 0x78), (0x021237, 0x56)], pg :=
                   0x02, pc := 0x1000 }) (fun t =>
      t.pcAddr) = some 0x025678 := by decide

-- B16
theorem test_jsr_B16 :
    ended (running [0x20, 0x00, 0x30] { start with sp := 0x01FF, ps := PS.ofBytes 0 0x00, pc := 0x1000 }) (fun t =>
      (t.mem.get 0x0001FF, t.mem.get 0x0001FE, t.sp, t.pcAddr)) = some (0x10, 0x03, 0x01FD, 0x003000) := by decide

-- B17
theorem test_jsr_B17 :
    ended (running [0x22, 0x00, 0x30, 0x02]
      { start with sp := 0x01FF, ps := PS.ofBytes 0 0x00, pg := 0x01, pc := 0x1000 }) (fun t =>
      (t.mem.get 0x0001FF, t.mem.get 0x0001FE, t.mem.get 0x0001FD, t.sp, t.pcAddr)) =
      some (0x01, 0x10, 0x04, 0x01FC, 0x023000) := by decide

-- B18
theorem test_rts_B18 :
    ended (running [0x60]
      { start with sp := 0x01FD, mem := cells [(0x0001FE, 0x03), (0x0001FF, 0x10)], pc := 0x3000 }) (fun t =>
      (t.pcAddr, t.sp)) = some (0x001003, 0x01FF) := by decide

-- B19
theorem test_rtl_B19 :
    ended (running [0x6B]
      { start with sp := 0x01FC, mem := cells [(0x0001FD, 0x04), (0x0001FE, 0x10), (0x0001FF, 0x01)], pg := 0x02, pc
                   := 0x3000 }) (fun t =>
      (t.pcAddr, t.sp)) = some (0x011004, 0x01FF) := by decide

-- K1
theorem test_pha_K1 :
    ended (running [0x48] { start with a := 0x1234, sp := 0x01FF, ps := PS.ofBytes 0 0x00 }) (fun t =>
      (t.mem.get 0x0001FF, t.mem.get 0x0001FE, t.sp)) = some (0x12, 0x34, 0x01FD) := by decide

-- K2
theorem test_pha_K2 :
    ended (running [0x48] { start with a := 0x1234, sp := 0x01FF, ps := PS.ofBytes 0 0x20 }) (fun t =>
      (t.mem.get 0x0001FF, t.sp)) = some (0x34, 0x01FE) := by decide

-- K3
theorem test_phb_K3 :
    ended (running [0x42, 0x48] { start with b := 0xABCD, sp := 0x01FF, ps := PS.ofBytes 0 0x00 }) (fun t =>
      (t.mem.get 0x0001FF, t.mem.get 0x0001FE, t.sp)) = some (0xAB, 0xCD, 0x01FD) := by decide

-- K4
theorem test_phd_K4 :
    ended (running [0x0B] { start with dpr := 0x1234, sp := 0x01FF, ps := PS.ofBytes 0x00 0x30 }) (fun t =>
      (t.mem.get 0x0001FF, t.mem.get 0x0001FE, t.sp)) = some (0x12, 0x34, 0x01FD) := by decide

-- K5
theorem test_php_K5 : ended (running [0x08] { start with sp := 0x027F, ps := PS.ofBytes 0x03 0x35 }) (fun t =>
      (t.mem.get 0x00027F, t.mem.get 0x00027E, t.sp)) = some (0x03, 0x35, 0x027D) := by decide

-- K6
theorem test_phg_K6 : ended (running [0x4B] { start with sp := 0x01FF, pg := 0x05, pc := 0x4000 }) (fun t =>
      (t.mem.get 0x0001FF, t.sp)) = some (0x05, 0x01FE) := by decide

-- K7
theorem test_pht_K7 : ended (running [0x8B] { start with dt := 0x7E, sp := 0x0000 }) (fun t =>
      (t.mem.get 0x000000, t.sp)) = some (0x7E, 0xFFFF) := by decide

-- K8
theorem test_pla_K8 :
    ended (running [0x68]
      { start with sp := 0x01FD, ps := PS.ofBytes 0 0x00, mem := cells [(0x0001FE, 0x00), (0x0001FF, 0x80)] }) (fun t =>
      (t.a, t.ps.n, t.ps.z, t.sp)) = some (0x8000, true, false, 0x01FF) := by decide

-- K9
theorem test_pld_K9 :
    ended (running [0x2B]
      { start with sp := 0x01FD, ps := PS.ofBytes 0x00 0xFF, mem := cells [(0x0001FE, 0x34), (0x0001FF, 0x12)] }) (fun t =>
      (t.dpr, t.sp, t.ps.low)) = some (0x1234, 0x01FF, 0xFF) := by decide

-- K10
theorem test_plp_K10 :
    ended (running [0x28] { start with sp := 0x027D, mem := cells [(0x00027E, 0x35), (0x00027F, 0x03)] }) (fun t =>
      (t.ps.low, t.ps.high, t.sp)) = some (0x35, 0x03, 0x027F) := by decide

-- K11
theorem test_plp_K11 : ended (running [0x28] { start with sp := 0x027D }) (fun t =>
      t.ps.toWord) = some 0x07FF := by decide

-- K12
theorem test_plt_K12 : ended (running [0xAB] { start with sp := 0x01FE, mem := cells [(0x0001FF, 0x80)] }) (fun t =>
      (t.dt, t.ps.n, t.ps.z, t.sp)) = some (0x80, true, false, 0x01FF) := by decide

-- K13
theorem test_plx_K13 :
    ended (running [0xFA]
      { start with x := 0x1200, sp := 0x01FE, ps := PS.ofBytes 0x00 0x10, mem := cells [(0x0001FF, 0x00)] }) (fun t =>
      (t.x, t.ps.z, t.ps.n, t.sp)) = some (0x1200, true, false, 0x01FF) := by decide

-- K14
theorem test_pea_K14 : ended (running [0xF4, 0x34, 0x12] { start with sp := 0x01FF }) (fun t =>
      (t.mem.get 0x0001FF, t.mem.get 0x0001FE, t.sp)) = some (0x12, 0x34, 0x01FD) := by decide

-- K15
theorem test_pei_K15 :
    ended (running [0xD4, 0x10]
      { start with dpr := 0x0100, sp := 0x01FF, mem := cells [(0x000110, 0xCD), (0x000111, 0xAB)] }) (fun t =>
      (t.mem.get 0x0001FF, t.mem.get 0x0001FE, t.sp)) = some (0xAB, 0xCD, 0x01FD) := by decide

-- K16
theorem test_per_K16 : ended (running [0x62, 0x10, 0x00] { start with sp := 0x01FF, pc := 0x1000 }) (fun t =>
      (t.mem.get 0x0001FF, t.mem.get 0x0001FE, t.sp)) = some (0x10, 0x13, 0x01FD) := by decide

-- K17
theorem test_per_K17 : ended (running [0x62, 0x20, 0x00] { start with sp := 0x01FF, pc := 0xFFF0 }) (fun t =>
      (t.mem.get 0x0001FF, t.mem.get 0x0001FE)) = some (0x00, 0x13) := by decide

-- K19
theorem test_psh_K19 :
    ended (running [0xEB, 0xFF]
      { start with a := 0x1234, b := 0x5678, x := 0x009A, y := 0x00BC, dpr := 0x0100, dt := 2, sp := 0x01FF, ps :=
                   PS.ofBytes 0x01 0x34, pg := 0x03, pc := 0x4000 }) (fun t =>
      ((List.range 10).map fun k => t.mem.get (BitVec.ofNat 24 (0x1FF - k)), t.sp)) =
      some ([0x34, 0x78, 0x9A, 0xBC, 0x01, 0x00, 0x02, 0x03, 0x01, 0x34], 0x01F5) := by decide

-- K21
theorem test_pul_K21 :
    ended (running [0xFB, 0x81]
      { start with b := 0xAAAA, sp := 0x01FB, ps := PS.ofBytes 0 0x00, mem := cells [(0x0001FC, 0x24), (0x0001FD,
                   0x00), (0x0001FE, 0x34), (0x0001FF, 0x12)] }) (fun t =>
      (t.ps.low, t.a, t.sp)) = some (0x24, 0x1234, 0x01FF) := by decide

-- K23
theorem test_pul_K23 :
    ended (running [0xFB, 0x01]
      { start with sp := 0x01FD, ps := PS.ofBytes 0 0x00, mem := cells [(0x0001FE, 0x00), (0x0001FF, 0x00)] }) (fun t =>
      (t.a, t.ps.low, t.sp)) = some (0x0000, 0x00, 0x01FF) := by decide

-- T1
theorem test_tad_T1 : ended (running [0x5B] { start with a := 0x12FF, ps := PS.ofBytes 0 0x20 }) (fun t =>
      (t.dpr, t.ps.low)) = some (0x12FF, 0x20) := by decide

-- T2
theorem test_tbs_T2 : ended (running [0x42, 0x1B] { start with b := 0x0200, ps := PS.ofBytes 0 0x20 }) (fun t =>
      (t.sp, t.ps.low)) = some (0x0200, 0x20) := by decide

-- T3
theorem test_tax_T3 : ended (running [0xAA] { start with a := 0x8034, ps := PS.ofBytes 0 0x20 }) (fun t =>
      (t.x, t.ps.n, t.ps.z)) = some (0x8034, true, false) := by decide

-- T4
theorem test_tax_T4 :
    ended (running [0xAA] { start with a := 0x8000, x := 0x1234, ps := PS.ofBytes 0x00 0x10 }) (fun t =>
      (t.x, t.ps.z, t.ps.n)) = some (0x1200, true, false) := by decide

-- T5
theorem test_tda_T5 : ended (running [0x7B] { start with a := 0x1111, ps := PS.ofBytes 0 0x00 }) (fun t =>
      (t.a, t.ps.z, t.ps.n)) = some (0x0000, true, false) := by decide

-- T6
theorem test_tsa_T6 :
    ended (running [0x3B] { start with a := 0x5500, sp := 0x01FF, ps := PS.ofBytes 0 0x20 }) (fun t =>
      (t.a, t.ps.n, t.ps.z)) = some (0x55FF, true, false) := by decide

-- T7
theorem test_tsx_T7 :
    ended (running [0xBA] { start with x := 0x9911, sp := 0x0280, ps := PS.ofBytes 0x00 0x10 }) (fun t =>
      (t.x, t.ps.n, t.ps.z)) = some (0x9980, true, false) := by decide

-- T8
theorem test_txa_T8 :
    ended (running [0x8A] { start with a := 0xAAAA, x := 0x12FF, ps := PS.ofBytes 0x00 0x10 }) (fun t =>
      (t.a, t.ps.n, t.ps.z)) = some (0x00FF, false, false) := by decide

-- T9
theorem test_txs_T9 : ended (running [0x9A] { start with x := 0x027F, ps := PS.ofBytes 0 0x00 }) (fun t =>
      (t.sp, t.ps.low)) = some (0x027F, 0x00) := by decide

-- T10
theorem test_txs_T10 : ended (running [0x9A] { start with x := 0x027F, ps := PS.ofBytes 0x00 0x10 }) (fun t =>
      t.sp) = some 0x007F := by decide

-- T11
theorem test_txy_T11 : ended (running [0x9B] { start with x := 0x8000, ps := PS.ofBytes 0 0x00 }) (fun t =>
      (t.y, t.ps.n, t.ps.z)) = some (0x8000, true, false) := by decide

-- T12
theorem test_xab_T12 :
    ended (running [0x89, 0x28] { start with a := 0x1100, b := 0x2280, ps := PS.ofBytes 0 0x20 }) (fun t =>
      (t.a, t.b, t.ps.n, t.ps.z)) = some (0x1180, 0x2200, true, false) := by decide

-- T13
theorem test_xab_T13 :
    ended (running [0x89, 0x28] { start with a := 0x0000, b := 0x1234, ps := PS.ofBytes 0 0x00 }) (fun t =>
      (t.a, t.b, t.ps.low)) = some (0x1234, 0x0000, 0x00) := by decide

-- F1
theorem test_clc_F1 : ended (running [0x18] { start with ps := PS.ofBytes 0x00 0xFF }) (fun t =>
      t.ps.low) = some 0xFE := by decide

-- F2
theorem test_cli_F2 : ended (running [0x58] { start with ps := PS.ofBytes 0x00 0x04 }) (fun t =>
      t.ps.low) = some 0x00 := by decide

-- F3
theorem test_clm_F3 : ended (running [0xD8] { start with ps := PS.ofBytes 0x00 0x24 }) (fun t =>
      t.ps.low) = some 0x04 := by decide

-- F4
theorem test_clp_F4 : ended (running [0xC2, 0x31] { start with ps := PS.ofBytes 0x05 0xFF }) (fun t =>
      (t.ps.low, t.ps.high)) = some (0xCE, 0x05) := by decide

-- F5
theorem test_sep_F5 : ended (running [0xE2, 0x30] { start with ps := PS.ofBytes 0x02 0x04 }) (fun t =>
      (t.ps.low, t.ps.high)) = some (0x34, 0x02) := by decide

-- F6
theorem test_sem_F6 : ended (running [0xF8] { start with ps := PS.ofBytes 0x00 0x00 }) (fun t =>
      t.ps.low) = some 0x20 := by decide

-- F7
theorem test_seb_F7 :
    ended (running [0x04, 0x40, 0x82] { start with ps := PS.ofBytes 0x00 0x20, mem := cells [(0x000040, 0x01)] }) (fun t =>
      (t.mem.get 0x000040, t.ps.low)) = some (0x83, 0x20) := by decide

-- F8
theorem test_seb_F8 :
    ended (running [0x0C, 0x00, 0x10, 0x00, 0x80]
      { start with ps := PS.ofBytes 0 0x00, mem := cells [(0x001000, 0x01), (0x001001, 0x00)] }) (fun t =>
      (t.mem.get 0x001000, t.mem.get 0x001001)) = some (0x01, 0x80) := by decide

-- F9
theorem test_clb_F9 :
    ended (running [0x14, 0x40, 0x81] { start with ps := PS.ofBytes 0 0x20, mem := cells [(0x000040, 0x83)] }) (fun t =>
      t.mem.get 0x000040) = some 0x02 := by decide

-- V1
theorem test_mvn_V1 :
    ended (running [0x54, 0x01, 0x00]
      { start with a := 0x0003, x := 0x1000, y := 0x2000, ps := PS.ofBytes 0 0x00, mem := cells [(0x001000, 0x11),
                   (0x001001, 0x22), (0x001002, 0x33)] }) (fun t =>
      (t.mem.get 0x012002, t.x, t.y, t.a, t.dt, t.cycles)) = some (0x33, 0x1003, 0x2003, 0xFFFF, 0x01, 18) := by decide

-- V4
theorem test_mvn_V4 :
    ended (running [0x54, 0x02, 0x00]
      { start with a := 0x0002, x := 0x12FF, y := 0x3400, ps := PS.ofBytes 0x00 0x10, mem := cells [(0x0000FF, 0x5A),
                   (0x000000, 0xA5)] }) (fun t =>
      (t.mem.get 0x020000, t.mem.get 0x020001, t.x, t.y, t.dt)) = some (0x5A, 0xA5, 0x1201, 0x3402, 0x02) := by decide

-- V2
theorem test_mvp_V2 :
    ended (running [0x44, 0x00, 0x00]
      { start with a := 0x7E02, x := 0x1001, y := 0x1002, ps := PS.ofBytes 0 0x20, mem := cells [(0x001000, 0xAA),
                   (0x001001, 0xBB)] }) (fun t =>
      (t.mem.get 0x001002, t.mem.get 0x001001, t.x, t.y, t.a)) = some (0xBB, 0xAA, 0x0FFF, 0x1000, 0x7EFF) := by decide

-- V6
theorem test_nop_V6 : ended (running [0xEA] { start with pg := 0x01, pc := 0xFFFF }) (fun t =>
      t.pcAddr) = some 0x020000 := by decide

-- X1
theorem test_brk_X1 :
    ended (running [0x00, 0xEA]
      { start with sp := 0x02FF, ps := PS.ofBytes 0x00 0x30, mem := cells [(0x00FFFA, 0x00), (0x00FFFB, 0x90)], pg :=
                   0x01, pc := 0x2000 }) (fun t =>
      ((List.range 5).map fun k => t.mem.get (BitVec.ofNat 24 (0x2FF - k)), t.sp, t.ps.toWord, t.pcAddr)) =
      some ([0x01, 0x20, 0x02, 0x00, 0x30], 0x02FA, 0x0034, 0x009000) := by decide

-- X3
theorem test_brk_X3 : ended (running [0x00, 0x00] { start with sp := 0x02FF, ps := PS.ofBytes 0x05 0x04 }) (fun t =>
      (t.mem.get 0x0002FC, t.mem.get 0x0002FB, t.ps.toWord)) = some (0x05, 0x04, 0x0504) := by decide

-- X2
theorem test_rti_X2 :
    ended (running [0x40]
      { start with sp := 0x02FA, mem := cells [(0x0002FB, 0x30), (0x0002FC, 0x00), (0x0002FD, 0x02), (0x0002FE, 0x20),
                   (0x0002FF, 0x01)] }) (fun t =>
      (t.ps.toWord, t.pcAddr, t.sp)) = some (0x0030, 0x012002, 0x02FF) := by decide

-- X7
theorem test_stp_X7 : ended (running [0xDB] start) (fun t =>
      (t.pcAddr, t.run)) = some (0x008001, .stopped) := by decide

-- R346
theorem test_wit : ended (running [0xCB] start) (fun t =>
      (t.pcAddr, t.run)) = some (0x008001, .waiting) := by decide

/-! Stops -/

-- M9
theorem test_div_M9 : refusal (running [0x89, 0x29, 0x00] { start with ps := PS.ofBytes 0 0x20 }) = some .divideByZero := by
  decide

-- K22
theorem test_pul_K22 : refusal (running [0xFB, 0x40] start) = some .pulProgramBank := by decide

-- E16
theorem test_refused_E16 : refusal (running [0xA3, 0x20] { start with sp := 0xFFF0 }) = some .stackRelativeOverflow := by
  decide

-- R79
theorem test_fault_first_byte : faulted (running [0x02] start) = some (.undefinedCode 0x02) := by decide

/-! The boundary -/

/-- The state of vector X4: one maskable source of level 4 at 00FFF0, its request pending, IPL 3, I = 0. -/
def requested : State :=
  { start with
    pg := 0x01, pc := 0x1234, sp := 0x01FF, ps := PS.ofBytes 3 0, pending := [0], mem := cells [(0xFFF0, 0x00), (0xFFF1, 0xA0)],
    cfg := { Config.default with intSources := [{ name := "T", vector := 0x00FFF0, level := 4, maskable := true }] } }

-- X4
theorem test_interrupt_X4_saves :
    ended (step requested) (fun t => (t.sp, (List.range 5).map fun k => t.mem.get (BitVec.ofNat 24 (0x1FF - k)))) =
      some (0x01FA, [0x01, 0x12, 0x34, 0x03, 0x00]) := by decide

-- X4
theorem test_interrupt_X4_goes :
    ended (step requested) (fun t => (t.ps.toWord, t.pcAddr, t.pending)) = some (0x0404, 0x00A000, []) := by decide

-- X5: level 4 does not exceed IPL 4; the NOP runs and the request stays pending
theorem test_interrupt_X5 :
    ended (running [0xEA] { requested with ps := PS.ofBytes 4 0 }) (fun t => (t.pcAddr, t.pending)) =
      some (0x011235, [0]) := by decide

-- X6
theorem test_interrupt_X6 :
    ended (running [0xEA] { requested with ps := PS.ofBytes 3 4 }) (fun t => (t.pcAddr, t.pending)) =
      some (0x011235, [0]) := by decide

-- X8
theorem test_interrupt_X8 :
    ended (step { requested with run := .waiting }) (fun t => (t.mem.get 0x1FD, t.pcAddr, t.run)) =
      some (0x34, 0x00A000, .running) := by decide

-- X7, X9: a stopped CPU leaves that state by reset
theorem test_reset_X9 :
    ended (step { start with
        run := .stopped, dt := 7, dpr := 0x1234, mem := cells [(0xFFFE, 0x00), (0xFFFF, 0xC0)],
        inputs := [{ reset := true, requests := [] }] })
      (fun t => (t.pcAddr, t.dt, t.dpr, t.run)) = some (0x00C000, 0x00, 0x0000, .running) := by decide

-- X7: without it the stopped CPU stays as it is
theorem test_stopped_stays :
    ended (step { start with run := .stopped }) id = some { start with run := .stopped } := by decide

/-! Two steps -/

-- F10: after SEP #20 the immediate of LDA is one byte
theorem test_sep_F10 :
    ended (Host.Core.run core 2 { start with ps := PS.ofBytes 0 0, mem := start.mem.place 0x8000 [0xE2, 0x20, 0xA9, 0x34, 0x12] })
      (fun t => (t.a, t.pcAddr)) = some (0x0034, 0x008004) := by decide

end Sys2Proof.Tests
end

