-- ==== Sys2Proof/Tests/Slice0.lean ====
section
/-! SUPPORT. Ill-formed terms that each check of WellFormed.lean refuses; the words of the opcode table; and for every
statement with hypotheses a concrete state and operands that meet them, clause by clause. -/

namespace Sys2Proof.Tests

open Sys2Proof.Machine

/-! Ill-formed terms -/

theorem test_wf_acc_mode : (Instr.lda .a (.mem (.dirY 0))).wf false false = false := by decide

theorem test_wf_acc_immediate : (Instr.adc .b (.imm 0x0100)).wf true false = false ∧ (Instr.adc .b (.imm 0x00FF)).wf true false = true ∧
    (Instr.adc .b (.imm 0xFFFF)).wf false true = true := by decide

theorem test_wf_muldiv : (Instr.mpy (.mem (.dirY 0))).wf false false = false ∧ (Instr.div (.imm 0x0100)).wf true false = false := by decide

theorem test_wf_sta : (Instr.sta .a (.dirY 0)).wf false false = false := by decide

theorem test_wf_ldm : (Instr.ldm (.absY 0) 0).wf false false = false ∧ (Instr.ldm (.abs 0) 0x0100).wf true false = false := by decide

theorem test_wf_ldx_ldy : (Instr.ldx (.mem (.dirX 0))).wf false false = false ∧ (Instr.ldy (.mem (.absY 0))).wf false false = false ∧
    (Instr.ldx (.imm 0x0100)).wf false true = false := by decide

theorem test_wf_stx_sty : (Instr.stx (.absY 0)).wf false false = false ∧ (Instr.sty (.absX 0)).wf false false = false := by decide

theorem test_wf_cpx_cpy : (Instr.cpx (.mem (.dirX 0))).wf false false = false ∧ (Instr.cpy (.imm 0x0100)).wf false true = false := by decide

theorem test_wf_modify : (Instr.inc (.mem (.dirInd 0))).wf false false = false ∧ (Instr.ror (.acc .b)).wf false false = true := by decide

theorem test_wf_rla : (Instr.rla 0x0100).wf true false = false := by decide

theorem test_wf_bits : (Instr.bbs (.dirX 0) 0 0).wf false false = false ∧ (Instr.bbc (.dir 0) 0x0100 0).wf true false = false ∧
    (Instr.seb (.absX 0) 0).wf false false = false ∧ (Instr.clb (.abs 0) 0x0100).wf true false = false := by decide

/-! Words as spec/opcode_table.json numbers them -/

theorem test_table_word : decodeTableWord 8 0xA9 = some (.lda .a (.imm 0)) ∧ decodeTableWord 16 0x42A9 = some (.lda .b (.imm 0)) ∧
    decodeTableWord 16 0x8928 = some .xab ∧ decodeTableWord 8 0x02 = none := by decide

theorem test_fetch_word : ended (step (State.reset.withFetchWord 16 0x8928)) (fun t => (t.ps.z, t.pcAddr)) = some (true, 0x010001) := by
  decide

/-! Reset -/

theorem test_reset_sequence : State.reset.resetSequence = .ok State.reset := by decide

/-! Witnesses -/

/-- m = x = 1. -/
def narrow8 : State := { start with ps := PS.ofBytes 0 0x30 }

/-- D = 1, m = 0. -/
def decimal16 : State := { start with ps := PS.ofBytes 0 0x08 }

/-- Single-chip mode. -/
def single : State := { start with cfg := { Config.default with mode := .singleChip } }

/-- ROM from C000, a device page at 4000, nothing in bank 80. -/
def mapped : State :=
  { start with cfg := { Config.default with memMap :=
      [⟨0x00C000, 0x00FFFF, .rom⟩, ⟨0x004000, 0x0040FF, .device⟩, ⟨0x800000, 0x80FFFF, .absent⟩] } }

/-- Code at PG:PC. -/
def coded (code : List Byte) (s : State) : State := { s with mem := s.mem.place s.pcAddr code }

theorem witness_DecodeEncode : (Instr.bbs (.abs 0xFFFF) 0x00FF 0x80).wf true true = true ∧
    (Instr.ldm (.absX 0xFFFF) 0xFFFF).wf false false = true ∧ (Instr.ldx (.imm 0x00FF)).wf false true = true := by decide

theorem witness_EncodeDecode : decode true false [0x24, 0x20, 0x81, 0x05, 0xEA] = .ok (.bbs (.dir 0x20) 0x81 0x05) [0xEA] ∧
    decode false true [0x42, 0xFF, 0xFF, 0xFF, 0xFF] = .ok (.sbc .b (.mem (.ablX 0xFFFFFF))) [] := by decide

theorem witness_EncodedLength : (Instr.nop).wf false false = true ∧ (Instr.bbc (.abs 0x1234) 0x5678 0xFE).wf false false = true := by decide

theorem witness_UndefinedCodesFault :
    let s := coded [0x02] start
    let u := coded [0x42, 0x00] start
    let v := coded [0x89, 0xFF] start
    (s.inputs = [] ∧ s.accepted = none ∧ s.run = .running ∧ s.canReadByte s.pcAddr = true ∧ s.mem.get s.pcAddr = 0x02) ∧
    (u.inputs = [] ∧ u.accepted = none ∧ u.run = .running ∧ u.canReadByte u.pcAddr = true ∧ u.canReadByte (u.pcAddr + 1) = true ∧
      u.mem.get (u.pcAddr + 1) = 0x00 ∧ u.mem.get u.pcAddr = 0x42 ∧
      decode false false [0x42, 0x00, 0, 0, 0, 0] = .bad (.code2 0x00)) ∧
    (v.inputs = [] ∧ v.accepted = none ∧ v.run = .running ∧ v.canReadByte v.pcAddr = true ∧ v.canReadByte (v.pcAddr + 1) = true ∧
      v.mem.get (v.pcAddr + 1) = 0xFF ∧ v.mem.get v.pcAddr = 0x89 ∧
      decode false false [0x89, 0xFF, 0, 0, 0, 0] = .bad (.code3 0xFF)) := by decide

theorem witness_StepRunsDecoded :
    let s := coded [0xA9, 0x34, 0x12] { start with pg := 0xFF, pc := 0xFFFE }
    s.inputs = [] ∧ s.accepted = none ∧ s.run = .running ∧
      decode s.ps.m s.ps.x (s.fetchFrom maxLength s.pcAddr).1 = .ok (.lda .a (.imm 0x1234)) [0xFF, 0xFF, 0xFF] := by decide

theorem witness_StepRunsMemory :
    let s := coded [0xEA] start
    s.inputs = [] ∧ s.accepted = none ∧ s.run = .running ∧ (Instr.nop).wf s.ps.m s.ps.x = true ∧
      ∀ (k : Nat) (v : Byte), (encode s.ps.m s.ps.x .nop)[k]? = some v → s.readByte (s.pcAddr + BitVec.ofNat 24 k) = .ok v := by
  refine ⟨rfl, rfl, rfl, rfl, fun k v h => ?_⟩
  match k with
  | 0 => cases h; decide
  | k + 1 => cases h

theorem witness_StepKeepsInv : ∃ t : State, (coded [0xEA] single).Inv ∧ step (coded [0xEA] single) = .next t :=
  ⟨_, ⟨by decide, by decide, by decide, by decide, by decide⟩, rfl⟩

theorem witness_StepKeepsConfig : ∃ t : State, step (coded [0xDB] start) = .next t := ⟨_, rfl⟩

theorem witness_ResetApplied :
    let now : Input := { reset := true, requests := [0] }
    let s : State := { requested with inputs := [now] }
    let own : ResetState := { ResetState.default with
      pc := some 0x1234, run := .waiting, pending := [0, 0, 9], memory := some [(0xFFFFFF, 0x12), (0x000000, 0xFF), (0xFFFFFF, 0x34)] }
    let u : State := { s with cfg := { s.cfg with resetState := own } }
    (s.resetNow = true ∧ s.cfg.resetState.pc = none ∧ s.canRead 2 s.cfg.resetVector = true ∧ s.cfg.resetState.memory = none) ∧
    (u.resetNow = true ∧ u.cfg.resetState.pc = some 0x1234 ∧ u.cfg.resetState.memory = own.memory ∧
      ended (step u) (fun t => (t.pc, t.run, t.pending, t.mem.get 0xFFFFFF, t.mem.cells.length)) =
        some (0x1234, .waiting, [0], 0x12, 1)) := by
  decide

theorem witness_RequestChoice :
    let source (level : BitVec 3) (maskable : Bool) : IntSource := { name := "", vector := 0x00FFF0, level, maskable }
    let s : State := { requested with
      pending := [2, 1, 0], cfg := { Config.default with intSources := [source 4 true, source 4 false, source 4 true] } }
    s.accepted = some (1, source 4 false) ∧ (0 ∈ s.pending ∧ s.ps.i = false ∧ s.ps.ipl.toNat < 4) ∧
    ({ s with pending := [2, 0] } : State).accepted = some (0, source 4 true) ∧
    ({ s with pending := [0], ps := PS.ofBytes 4 0 } : State).accepted = none := by decide

theorem witness_InterruptEntry :
    ∀ s ∈ [requested, { requested with run := .stopped }, { requested with run := .waiting, sp := 0x0002 }],
      s.resetNow = false ∧ s.atBoundary.accepted = s.cfg.intSources.head?.map (fun src => (0, src)) ∧ s.mem.wf = true ∧
        s.ramBelow 5 s.sp = true ∧ s.canRead 2 0x00FFF0 = true := by decide

theorem witness_PowerStates :
    (∀ i ∈ [Instr.stp, .wit], start.mayContinue i = true ∧ single.mayContinue i = true) ∧
    ∀ r ∈ [RunState.stopped, .waiting],
      let s : State := { requested with run := r, ps := PS.ofBytes 4 0 }
      (s.run = .stopped ∨ s.run = .waiting) ∧ s.resetNow = false ∧ s.atBoundary.accepted = none := by decide

theorem witness_IndirectAddresses :
    let s : State := { start with dpr := 0xFFFF, x := 0xFFFF }
    ((0x0200FD : Addr).toNat = s.dpr.toNat + (0xFF : Byte).toNat + lowBits s.xw s.x ∧ s.canRead 2 0x0200FD = true) ∧
    ((0x0100FE : Addr).toNat = s.dpr.toNat + (0xFF : Byte).toNat ∧ s.canRead 2 0x0100FE = true ∧ s.canRead 3 0x0100FE = true) := by
  decide

theorem witness_StackRelativeAddresses :
    let s : State := { start with sp := 0xFF00 }
    s.sp.toNat + (0xFF : Byte).toNat ≤ 0xFFFF ∧ 0xFFFF < ({ s with sp := 0xFF01 } : State).sp.toNat + (0xFF : Byte).toNat ∧
    ((0x00FFFE : Addr).toNat = s.sp.toNat + (0xFE : Byte).toNat ∧ s.sp.toNat + (0xFE : Byte).toNat + 1 ≤ 0xFFFF ∧
      s.canRead 2 0x00FFFE = true) ∧
    0xFFFF < s.sp.toNat + (0xFF : Byte).toNat + 1 := by decide

theorem witness_OperandValues :
    start.ea (.abs 0xFFFF) = .ok 0x00FFFF ∧ start.canRead (bytesOf .w16) 0x00FFFF = true ∧
    mapped.ea (.abl 0x00FFFF) = .ok 0x00FFFF ∧ mapped.canRead (bytesOf .w8) 0x00FFFF = true := by decide

theorem witness_AccessRefused_reads :
    let device : State := { mapped with dpr := 0x3FFF }
    let absent : State := { mapped with pg := 0x80, pc := 0x0000 }
    let edge : State := { start with cfg := { Config.default with memMap := [⟨0x00FFFF, 0x00FFFF, .absent⟩, ⟨0x000101, 0x000101, .absent⟩] } }
    (device.readRefused 2 0x003FFF (.deviceAddress 0x004000) ∧ (0x003FFF : Addr).toNat = device.dpr.toNat + (0x00 : Byte).toNat) ∧
    ({ mapped with dpr := 0x3FFE } : State).readRefused 3 0x003FFE (.deviceAddress 0x004000) ∧
    ({ edge with sp := 0xFF00 } : State).readRefused 2 0x00FFFE (.absentAddress 0x00FFFF) ∧
    mapped.ea (.abl 0x7FFFFF) = .ok 0x7FFFFF ∧ mapped.readRefused (bytesOf .w16) 0x7FFFFF (.absentAddress 0x800000) ∧
    mapped.operand mapped.mw (.mem (.abl 0x7FFFFF)) = .error (.absentAddress 0x800000) ∧
    mapped.operand mapped.xw (.mem (.abs 0x40FF)) = .error (.deviceAddress 0x0040FF) ∧
    ({ start with sp := 0xFFFF } : State).ea (.sr 1) = .error .stackRelativeOverflow ∧
    edge.readRefused 2 0x000100 (.absentAddress 0x000101) ∧ absent.readRefused 2 0x801234 (.absentAddress 0x801234) ∧
    absent.canPush 3 2 absent.sp = true := by
  unfold State.readRefused
  decide

theorem witness_AccessRefused_stores :
    let rom : State := { mapped with dt := 0x00 }
    (rom.ea (.abs 0xBFFF) = .ok 0x00BFFF ∧ rom.storeRefused (rom.lengthOf (.sta .a (.abs 0xBFFF))) (bytesOf rom.mw) 0x00BFFF (.romWrite 0x00C000)) ∧
    (rom.ea (.abs 0xC000) = .ok 0x00C000 ∧ rom.canRead (bytesOf rom.mw) 0x00C000 = true ∧
      rom.storeRefused (rom.lengthOf (.inc (.mem (.abs 0xC000)))) (bytesOf rom.mw) 0x00C000 (.romWrite 0x00C000)) ∧
    ({ mapped with sp := 0x4100 } : State).pushRefused 2 5 (.deviceAddress 0x0040FF) ∧
    (({ mapped with sp := 0xC000 } : State).pushRefused 2 2 (.romWrite 0x00C000) ∧
      ({ mapped with sp := 0xC000 } : State).canRead 2 0x000000 = true) ∧
    (mapped.canPush 2 5 mapped.sp = true ∧
      ({ mapped with cfg := { mapped.cfg with brkVector := 0x0040FF } } : State).readRefused 2 0x0040FF (.deviceAddress 0x0040FF)) ∧
    ({ mapped with sp := 0x3FFE } : State).pullRefused 3 (.deviceAddress 0x004000) ∧
    ({ mapped with sp := 0x3FFF } : State).pullRefused (pulBytes .w16 .w16 0x80 [7, 5, 4, 3, 2, 1, 0]) (.deviceAddress 0x004000) := by
  unfold State.readRefused State.storeRefused State.pushRefused State.pullRefused
  decide

theorem witness_AccessRefused_blocks :
    let s : State := { mapped with a := 2, x := 0x3FFF, y := 0xFFFF }
    (∀ up ∈ [true, false], ((List.range (lowBits s.mw s.a)).findSome? fun k =>
      (s.readRefusal (addrOf 0x00 (BitVec.ofNat 16 (blockIndex s.xw up s.x k)))).or
        (s.storeRefusal 3 (addrOf 0x80 (BitVec.ofNat 16 (blockIndex s.xw up s.y k))))) = some (.absentAddress 0x80FFFF)) ∧
    s.cfg.mode ≠ .singleChip := by decide

theorem witness_PrefetchedStoreRefused :
    (narrow8.ps.m = true ∧ narrow8.ea (.abs 0x8005) = .ok 0x008005 ∧ narrow8.kindAt 0x008005 = .ram ∧
      narrow8.mayContinue (.sta .a (.abs 0x8005)) = true) ∧
    (narrow8.ea (.abs 0x8006) = .ok 0x008006 ∧ narrow8.kindAt 0x008006 = .ram ∧
      narrow8.mayContinue (.sta .a (.abs 0x8006)) = true) ∧
    ((0x008005 : Addr) - narrow8.pcAddr).toNat < narrow8.lengthOf (.sta .a (.abs 0x8005)) + 3 ∧
    narrow8.lengthOf (.sta .a (.abs 0x8006)) + 3 ≤ ((0x008006 : Addr) - narrow8.pcAddr).toNat := by
  refine ⟨by decide, by decide, ?_, ?_⟩
  · show (5 : Nat) < 3 + 3; decide
  · show (3 : Nat) + 3 ≤ 6; decide

theorem witness_Loads :
    (∀ s ∈ [start, narrow8, single],
      s.operand s.mw (.imm 0x00FF) = .ok 0x00FF ∧ s.mayContinue (.lda .b (.imm 0x00FF)) = true ∧
      s.operand s.mw (.mem (.dir 0xFF)) = .ok (if s.ps.m then 0x00FF else 0xFFFF) ∧
      s.operand s.xw (.imm 0x00FF) = .ok 0x00FF ∧ s.mayContinue (.ldx (.imm 0x00FF)) = true ∧
      s.mayContinue (.ldy (.imm 0x00FF)) = true) ∧
    start.mayGoTo (start.nextPC 3) 0xFF = true ∧ single.mayGoTo (single.nextPC 3) 0x00 = true := by decide

theorem witness_Stores :
    ∀ s ∈ [start, narrow8, single],
      s.ea (.abs 0xFFFF) = .ok 0x00FFFF ∧ s.mem.wf = true ∧
      ∀ p ∈ [(Instr.ldm (.abs 0xFFFF) 0x00FF, s.mw, (0x00FF : Word)), (.sta .b (.abs 0xFFFF), s.mw, s.b), (.stx (.abs 0xFFFF), s.xw, s.x),
          (.sty (.abs 0xFFFF), s.xw, s.y)],
        s.canStore (s.lengthOf p.1) p.2.1 0x00FFFF = true ∧ s.mayContinue p.1 = true := by decide

theorem witness_AdcBinary : narrow8.operand narrow8.mw (.imm 0x00FF) = .ok 0x00FF ∧ narrow8.ps.d = false ∧
    narrow8.mayContinue (.adc .b (.imm 0x00FF)) = true := by decide

theorem witness_AdcDecimal : decimal16.operand decimal16.mw (.imm 0x9999) = .ok 0x9999 ∧ decimal16.ps.d = true ∧
    decimal16.mayContinue (.adc .a (.imm 0x9999)) = true ∧ bcdValid (digitsOf decimal16.mw) (lowBits decimal16.mw decimal16.a) = true ∧
    bcdValid (digitsOf decimal16.mw) (0x9999 : Word).toNat = true := by decide

theorem witness_SbcBinary : start.operand start.mw (.imm 0xFFFF) = .ok 0xFFFF ∧ start.ps.d = false ∧
    start.mayContinue (.sbc .a (.imm 0xFFFF)) = true := by decide

theorem witness_SbcDecimal : decimal16.operand decimal16.mw (.imm 0x0001) = .ok 0x0001 ∧ decimal16.ps.d = true ∧
    decimal16.mayContinue (.sbc .b (.imm 0x0001)) = true ∧ bcdValid (digitsOf decimal16.mw) (lowBits decimal16.mw decimal16.b) = true ∧
    bcdValid (digitsOf decimal16.mw) (0x0001 : Word).toNat = true := by decide

theorem witness_Compares :
    ∀ s ∈ [start, narrow8],
      ∀ p ∈ [(Instr.cmp .b (.imm 0x0000), s.mw), (.cpx (.imm 0x0000), s.xw), (.cpy (.imm 0x0000), s.xw)],
        s.operand p.2 (.imm 0x0000) = .ok 0x0000 ∧ s.mayContinue p.1 = true := by decide

theorem witness_Logic :
    narrow8.operand narrow8.mw (.imm 0x00FF) = .ok 0x00FF ∧
    ∀ i ∈ [Instr.and .a (.imm 0x00FF), .ora .a (.imm 0x00FF), .eor .a (.imm 0x00FF)], narrow8.mayContinue i = true := by decide

theorem witness_ModifyAccumulator :
    ∀ s ∈ [start, narrow8], ∀ p ∈ modifications s.mw s.ps.c, s.mayContinue (p.instr (.acc .b)) = true := by decide

theorem witness_ModifyMemory :
    ∀ s ∈ [start, narrow8], s.ea (.dir 0xFF) = .ok 0x0000FF ∧ s.mem.wf = true ∧
      ∀ p ∈ modifications s.mw s.ps.c,
        s.canStore (s.lengthOf (p.instr (.mem (.dir 0xFF)))) s.mw 0x0000FF = true ∧ s.mayContinue (p.instr (.mem (.dir 0xFF))) = true := by
  decide

theorem witness_CountIndex : ∀ i ∈ [Instr.inx, .dex, .iny, .dey], start.mayContinue i = true ∧ single.mayContinue i = true := by decide

theorem witness_RotateLeft : start.mayContinue (.rla 0xFFFF) = true ∧ narrow8.mayContinue (.rla 0x00FF) = true := by decide

theorem witness_Multiply : start.operand start.mw (.imm 0xFFFF) = .ok 0xFFFF ∧ start.mayContinue (.mpy (.imm 0xFFFF)) = true := by decide

theorem witness_Divide :
    let s : State := { narrow8 with b := 0x0001 }
    s.operand s.mw (.imm 0) = .ok 0 ∧ s.operand s.mw (.imm 2) = .ok 2 ∧ (2 : Word) ≠ 0 ∧ s.mayContinue (.div (.imm 2)) = true ∧
    (lowBits s.mw s.b * 2 ^ bitsOf s.mw + lowBits s.mw s.a) / (2 : Word).toNat < 2 ^ bitsOf s.mw := by decide

theorem witness_RelativeBranches :
    ((0x00FF82 : Addr).toNat : Int) = (({ start with pg := 1, pc := 0 } : State).nextPC 2).toNat + (0x80 : Byte).toInt ∧
    (((0x007F82 : Addr).toNat : Int) = ((start.nextPC 2).toNat + (0x80 : Byte).toInt) % 2 ^ 24 ∧ start.mayGoTo 0x007F82 start.dt = true) ∧
    (((0x008002 : Addr).toNat : Int) = ((start.nextPC 2).toNat + 0) % 2 ^ 24 ∧ single.mayGoTo 0x008002 single.dt = true) ∧
    (((0x000003 : Addr).toNat : Int) = ((start.nextPC 3).toNat + (0x8000 : Word).toInt) % 2 ^ 24 ∧
      start.mayGoTo 0x000003 start.dt = true) := by decide

theorem witness_BitBranches :
    let s : State := { narrow8 with mem := cells [(0x0000FF, 0x81)] }
    s.ea (.dir 0xFF) = .ok 0x0000FF ∧ s.canRead (bytesOf s.mw) 0x0000FF = true ∧
    (∀ j < bitsOf s.mw, (0x81 : Word).getLsbD j = true → (s.number (bytesOf s.mw) 0x0000FF).testBit j = true) ∧
    (∀ j < bitsOf s.mw, (0x7E : Word).getLsbD j = true → (s.number (bytesOf s.mw) 0x0000FF).testBit j = false) ∧
    ¬ (∀ j < bitsOf s.mw, (0x02 : Word).getLsbD j = true → (s.number (bytesOf s.mw) 0x0000FF).testBit j = true) ∧
    ((0x008009 : Addr).toNat : Int) = ((s.nextPC (s.lengthOf (.bbs (.dir 0xFF) 0x81 0x05))).toNat + (0x05 : Byte).toInt) % 2 ^ 24 ∧
    (0x008004 : Addr) = s.nextPC (s.lengthOf (.bbs (.dir 0xFF) 0x02 0x05)) ∧ s.mayGoTo 0x008009 s.dt = true ∧
    s.mayGoTo 0x008004 s.dt = true := by decide

theorem witness_Jumps :
    let s : State := { start with pg := 2, x := 0x0001 }
    s.mayGoTo (addrOf s.pg 0xFFFF) s.dt = true ∧ s.mayGoTo 0xFFFFFF s.dt = true ∧
    ((0x00FFFF : Addr).toNat = (0xFFFF : Word).toNat ∧ s.canRead 2 0x00FFFF = true ∧ s.mayGoTo s.pcAddr s.dt = true) ∧
    (s.canRead 3 0x00FFFF = true ∧ s.mayGoTo (BitVec.ofNat 24 (s.number 3 0x00FFFF)) s.dt = true) ∧
    ((0x02FFFE : Addr).toNat = 65536 * s.pg.toNat + ((0xFFFD : Word).toNat + lowBits s.xw s.x) ∧
      (0xFFFD : Word).toNat + lowBits s.xw s.x + 1 ≤ 0xFFFF ∧ s.canRead 2 0x02FFFE = true) ∧
    0xFFFF < (0xFFFE : Word).toNat + lowBits s.xw s.x + 1 := by decide

theorem witness_Calls :
    let s : State := { start with pg := 2, x := 0x0001, sp := 0x0000 }
    s.mem.wf = true ∧ s.canPush 3 2 s.sp = true ∧ s.mayGoTo s.pcAddr s.dt = true ∧ s.canPush 4 3 s.sp = true ∧
    s.mayGoTo 0xFFFFFF s.dt = true ∧
    ((0x02FFFE : Addr).toNat = 65536 * s.pg.toNat + (0xFFFD : Word).toNat + lowBits s.xw s.x ∧
      (0xFFFD : Word).toNat + lowBits s.xw s.x + 1 ≤ 0xFFFF ∧ s.canRead 2 0x02FFFE = true) ∧
    0xFFFF < (0xFFFE : Word).toNat + lowBits s.xw s.x + 1 := by decide

theorem witness_SubroutineReturns :
    start.canPull 2 start.sp = true ∧ start.mayGoTo start.pcAddr start.dt = true ∧ start.canPull 3 start.sp = true ∧
    banksLegal start.cfg (start.stackByte 3) start.dt = true := by decide

theorem witness_CallThenReturn :
    start.mem.wf = true ∧ start.canPush 4 3 start.sp = true ∧ start.mayGoTo 0xFFFFFF start.dt = true ∧
    start.mayGoTo (start.nextPC 4) start.dt = true ∧ start.canPush 3 2 start.sp = true ∧
    start.mayGoTo start.pcAddr start.dt = true ∧ bankOf (start.nextPC 3) = start.pg := by decide

theorem witness_SinglePushes :
    ∀ s ∈ [start, narrow8, { start with sp := 0x0000 }], s.mem.wf = true ∧
      ∀ p ∈ [(Instr.pha, pushedBytes s.mw s.a), (.phb, pushedBytes s.mw s.b), (.phd, [highByte s.dpr, lowByte s.dpr]), (.phg, [s.pg]),
          (.php, [s.ps.high, s.ps.low]), (.pht, [s.dt]), (.phx, pushedBytes s.xw s.x), (.phy, pushedBytes s.xw s.y)],
        s.canPush (s.lengthOf p.1) p.2.length s.sp = true ∧ s.mayContinue p.1 = true := by decide

theorem witness_SinglePulls :
    ∀ s ∈ [start, narrow8, { start with sp := 0xFFFF }],
      s.canPull (bytesOf s.mw) s.sp = true ∧ s.canPull (bytesOf s.xw) s.sp = true ∧ s.canPull 1 s.sp = true ∧ s.canPull 2 s.sp = true ∧
      s.mayGoTo (s.nextPC 1) (s.stackByte 1) = true ∧
      ∀ i ∈ [Instr.pla, .plb, .plx, .ply, .pld, .plp], s.mayContinue i = true := by decide

theorem witness_PushComputed :
    let s : State := { start with dpr := 0xFFFF }
    s.mem.wf = true ∧ s.canPush 3 2 s.sp = true ∧ s.mayContinue (.pea (wordOf 0xFF 0xFF)) = true ∧
    (0x0100FE : Addr).toNat = s.dpr.toNat + (0xFF : Byte).toNat ∧ s.canRead 2 0x0100FE = true ∧ s.canPush 2 2 s.sp = true ∧
    s.mayContinue (.pei 0xFF) = true ∧ s.mayContinue (.per (wordOf 0xFF 0xFF)) = true := by decide

theorem witness_PushSelected :
    ∀ s ∈ [start, narrow8], ∀ nn ∈ [(0x00 : Byte), 0xFF],
      s.mem.wf = true ∧ s.canPush 2 (s.selectedBytes nn).length s.sp = true ∧ s.mayContinue (.psh nn) = true := by decide

theorem witness_PullSelected :
    let s : State := { start with mem := cells [(0x000280, 0x20)] }
    (∀ nn ∈ [(0x00 : Byte), 0xBF],
      nn.getLsbD 6 = false ∧ s.canPull (pulBytes s.mw s.xw nn [7, 5, 4, 3, 2, 1, 0]) s.sp = true ∧
        s.mayGoTo (s.nextPC 2) (if nn.getLsbD 5 then s.stackByte (pulBytes s.mw s.xw nn [7] + 1) else s.dt) = true) ∧
    (s.ps.m = false ∧ (0x81 : Byte).getLsbD 7 = true ∧ (s.stackByte 1).getLsbD 5 = true) ∧
    ¬ (narrow8.ps.m = false ∧ (0x81 : Byte).getLsbD 7 = true ∧ (narrow8.stackByte 1).getLsbD 5 = true) ∧
    (0x40 : Byte).getLsbD 6 = true := by decide

theorem witness_PushThenPull :
    ∀ s ∈ [start, narrow8], ∀ nn ∈ [(0x00 : Byte), 0xBF],
      s.mem.wf = true ∧ nn.getLsbD 6 = false ∧ s.canPush 2 (s.selectedBytes nn).length s.sp = true ∧ s.mayContinue (.psh nn) = true ∧
      s.mayGoTo (s.nextPC 2 + 2) s.dt = true := by decide

theorem witness_Transfers :
    ∀ i ∈ [Instr.tda, .tdb, .tsa, .tsb, .txa, .txb, .tya, .tyb, .tax, .tbx, .tsx, .tyx, .tay, .tby, .txy, .xab],
      start.mayContinue i = true ∧ single.mayContinue i = true := by decide

theorem witness_TransfersToBase :
    ∀ i ∈ [Instr.tad, .tbd, .tas, .tbs, .txs], start.mayContinue i = true ∧ single.mayContinue i = true := by decide

theorem witness_FlagInstructions :
    ∀ i ∈ [Instr.clc, .cli, .clm, .clv, .sec, .sei, .sem, .clp 0xFF, .sep 0xFF, .clp 0x00, .sep 0x00],
      start.mayContinue i = true := by decide

theorem witness_MemoryBits :
    ∀ s ∈ [start, narrow8], s.ea (.abs 0xFFFF) = .ok 0x00FFFF ∧ s.mem.wf = true ∧
      ∀ i ∈ [Instr.seb (.abs 0xFFFF) 0x00FF, .clb (.abs 0xFFFF) 0x00FF],
        s.canStore (s.lengthOf i) s.mw 0x00FFFF = true ∧ s.mayContinue i = true := by decide

/-- Counts 2 and 0, with X at the end of its bank. -/
theorem witness_BlockRegisters :
    ∀ s ∈ [({ start with a := 2, x := 0xFFFF, y := 0x0FFF } : State), { start with x := 0xFFFF, y := 0x0FFF }],
      (∀ k < lowBits s.mw s.a, ∀ up ∈ [true, false],
        s.canReadByte (addrOf 0 (BitVec.ofNat 16 (blockIndex s.xw up s.x k))) = true ∧
        s.canStoreByte 3 (addrOf 1 (BitVec.ofNat 16 (blockIndex s.xw up s.y k))) = true) ∧
      s.mem.wf = true ∧ s.mayGoTo (s.nextPC 3) 1 = true ∧ s.cfg.mode ≠ .singleChip := by decide

theorem witness_BlockMemory :
    let s : State := { start with a := 2, x := 0xFFFE, y := 0xFFFD }
    let u : State := { start with a := 2, x := 1, y := 2 }
    (lowBits s.xw s.x + 2 ≤ 2 ^ bitsOf s.xw ∧ lowBits s.xw s.y + 2 ≤ 2 ^ bitsOf s.xw ∧ lowBits s.xw s.y ≤ lowBits s.xw s.x ∧
      (∀ k < 2, s.canReadByte (addrOf 0 (BitVec.ofNat 16 (0xFFFE + k))) = true ∧
        s.canStoreByte 3 (addrOf 0 (BitVec.ofNat 16 (0xFFFD + k))) = true) ∧
      s.mem.wf = true ∧ s.mayGoTo (s.nextPC 3) 0 = true ∧ lowBits s.mw s.a ≠ 0) ∧
    (2 ≤ lowBits u.xw u.x + 1 ∧ 2 ≤ lowBits u.xw u.y + 1 ∧ lowBits u.xw u.x ≤ lowBits u.xw u.y ∧
      (∀ k < 2, u.canReadByte (addrOf 0 (BitVec.ofNat 16 (1 + 1 - 2 + k))) = true ∧
        u.canStoreByte 3 (addrOf 0 (BitVec.ofNat 16 (2 + 1 - 2 + k))) = true) ∧
      u.mem.wf = true ∧ u.mayGoTo (u.nextPC 3) 0 = true ∧ lowBits u.mw u.a ≠ 0) := by decide

theorem witness_NoOperation : start.mayContinue .nop = true ∧ single.mayContinue .nop = true := by decide

theorem witness_SoftwareInterrupt :
    ∀ s ∈ [start, { start with sp := 0x0003, pg := 0x12, pc := 0xFFFF }],
      s.mem.wf = true ∧ s.canPush 2 5 s.sp = true ∧ s.canRead 2 s.cfg.brkVector = true ∧ banksLegal s.cfg 0 s.dt = true ∧
        s.run = .running := by decide

theorem witness_InterruptReturn :
    start.canPull 5 start.sp = true ∧ banksLegal start.cfg (start.stackByte 5) start.dt = true := by decide

theorem witness_BreakThenReturn :
    start.mem.wf = true ∧ start.canPush 2 5 start.sp = true ∧ start.canRead 2 start.cfg.brkVector = true ∧
    banksLegal start.cfg 0 start.dt = true ∧ start.mayGoTo (start.nextPC 2) start.dt = true ∧ start.run = .running := by decide

theorem witness_IplWriters : ∃ t : State, exec (.sep 0xFF) start = .next t ∧ loadsIpl (.sep 0xFF) = false := ⟨_, rfl, rfl⟩

theorem witness_SequentialAdvance :
    ∃ t : State, exec .nop { start with pg := 0xFF, pc := 0xFFFF } = .next t ∧ transfersControl .nop = false := ⟨_, rfl, rfl⟩

theorem witness_SingleChipBanks :
    ∃ t : State, exec (.ldt 0x00) single = .next t ∧ single.cfg.mode = .singleChip := ⟨_, rfl, rfl⟩

end Sys2Proof.Tests
end

section
/-! SUPPORT. What every instruction leaves as it was, said once for each shared operation and then for each instruction: the
parameters, what the environment presents, the pending requests and the counter of cycles; memory stays canonical and the
counter of free values does not drop. -/

namespace Sys2Proof.Machine

/-- What holds between the state before an instruction and the state after it, whatever the instruction is. -/
structure Kept (s t : State) : Prop where
  cfg : t.cfg = s.cfg
  inputs : t.inputs = s.inputs
  pending : t.pending = s.pending
  cycles : t.cycles = s.cycles
  free : s.free ≤ t.free
  wf : s.mem.wf = true → t.mem.wf = true

@[simp] theorem Kept.refl (s : State) : Kept s s := ⟨rfl, rfl, rfl, rfl, le_rfl, id⟩

theorem Kept.trans {s t u : State} (h : Kept s t) (k : Kept t u) : Kept s u :=
  ⟨k.cfg.trans h.cfg, k.inputs.trans h.inputs, k.pending.trans h.pending, k.cycles.trans h.cycles, h.free.trans k.free,
    k.wf ∘ h.wf⟩

/-- Field by field, so that the lemmas about the fields of an updated state decide it. -/
theorem kept_iff (s t : State) :
    Kept s t ↔ t.cfg = s.cfg ∧ t.inputs = s.inputs ∧ t.pending = s.pending ∧ t.cycles = s.cycles ∧ s.free ≤ t.free ∧
      (s.mem.wf = true → t.mem.wf = true) :=
  ⟨fun h => ⟨h.cfg, h.inputs, h.pending, h.cycles, h.free, h.wf⟩,
    fun ⟨cfg, inputs, pending, cycles, free, wf⟩ => ⟨cfg, inputs, pending, cycles, free, wf⟩⟩

theorem kept_setMem (s : State) (m : Memory) (h : s.mem.wf = true → m.wf = true) : Kept s (s.setMem m) := by
  simpa [kept_iff] using h

theorem kept_pushed (s : State) (l : List Byte) : Kept s (s.pushed l) := by
  simpa [kept_iff] using memPushed_wf l s.sp s.mem

theorem kept_goto (s : State) (a : Addr) : Kept s (s.goto a) := by simp [kept_iff]

theorem kept_advance (s : State) (n : Nat) : Kept s (s.advance n) := kept_goto s _

theorem kept_branchIf (s : State) (taken : Bool) (len : Nat) (rr : Byte) : Kept s (s.branchIf taken len rr) := kept_goto s _

/-! Operations that can be refused -/

/-- Wherever the operation answers a state, it is kept from `s` on. -/
def ResKeeps (s : State) (r : Res State) : Prop := ∀ t, r = .ok t → Kept s t

/-- Wherever the instruction ends in a state, it is kept from `s` on. -/
def ResultKeeps (s : State) (r : Result) : Prop := ∀ t, r = .next t → Kept s t

theorem resKeeps_ok {s t : State} (h : Kept s t) : ResKeeps s (.ok t) := by
  intro u hu
  obtain rfl := Except.ok.inj hu
  exact h

theorem resKeeps_error (s : State) (e : Refusal) : ResKeeps s (.error e) := by
  intro u hu
  cases hu

/-- An operation that first computes a value. -/
theorem resKeeps_bind {α : Type} {s : State} {x : Res α} {f : α → Res State} (h : ∀ a, x = .ok a → ResKeeps s (f a)) :
    ResKeeps s (x >>= f) := by
  intro t ht
  obtain ⟨a, ha, hf⟩ := (res_bind_ok _ _ _).1 ht
  exact h a ha t hf

/-- An operation that first passes through another state. -/
theorem ResKeeps.bind {s : State} {x : Res State} {f : State → Res State} (hx : ResKeeps s x) (hf : ∀ u, ResKeeps u (f u)) :
    ResKeeps s (x >>= f) :=
  resKeeps_bind fun u hu t ht => (hx u hu).trans (hf u t ht)

/-- An operation that first pulls a value, which leaves another state beside it. -/
theorem resKeeps_bindPair {α : Type} {s : State} {x : Res (α × State)} {f : α × State → Res State}
    (hx : ∀ p, x = .ok p → Kept s p.2) (hf : ∀ p, ResKeeps p.2 (f p)) : ResKeeps s (x >>= f) :=
  resKeeps_bind fun p hp t ht => (hx p hp).trans (hf p t ht)

theorem ResKeeps.completes {s : State} {r : Res State} (h : ResKeeps s r) : ResultKeeps s (complete r) :=
  fun t ht => h t ((complete_next r t).1 ht).1

/-- An instruction that nothing can refuse before its end. -/
theorem resultKeeps_done {s t : State} (h : Kept s t) : ResultKeeps s (complete (pure t)) := (resKeeps_ok h).completes

/-- An instruction that reads one value and then only updates the state. -/
theorem resultKeeps_read {α : Type} {s : State} (x : Res α) {f : α → State} (h : ∀ a, Kept s (f a)) :
    ResultKeeps s (complete (x >>= fun a => pure (f a))) :=
  (resKeeps_bind fun a _ => resKeeps_ok (h a)).completes

/-- An instruction that changes memory or the stack in one operation and then only updates the state. -/
theorem ResKeeps.finish {s : State} {x : Res State} {f : State → State} (hx : ResKeeps s x) (hf : ∀ u, Kept u (f u)) :
    ResultKeeps s (complete (x >>= fun u => pure (f u))) :=
  (hx.bind fun u => resKeeps_ok (hf u)).completes

/-! Stores, pushes and pulls -/

theorem storeByte_keeps (s : State) (len : Option Nat) (a : Addr) (v : Byte) : ResKeeps s (s.storeByte len a v) := by
  intro t ht
  obtain rfl := s.storeByte_eq t len a v ht
  exact kept_setMem s _ (s.mem.set_wf a v)

theorem storeData_keeps (s : State) (n : Nat) (w : Width) (a : Addr) (v : Word) : ResKeeps s (s.storeData n w a v) := by
  intro t ht
  obtain ⟨m, rfl, hm⟩ := s.storeData_eq t n w a v ht
  exact kept_setMem s m hm

theorem push8_keeps (s : State) (len : Option Nat) (v : Byte) : ResKeeps s (s.push8 len v) := by
  intro t ht
  obtain rfl := s.push8_eq t len v ht
  exact kept_pushed s _

theorem push16_keeps (s : State) (len : Option Nat) (v : Word) : ResKeeps s (s.push16 len v) := by
  intro t ht
  obtain rfl := s.push16_eq t len v ht
  exact kept_pushed s _

theorem pushReg_keeps (s : State) (len : Option Nat) (r : Reg) : ResKeeps s (s.pushReg len r) := by
  intro t ht
  obtain rfl := s.pushReg_eq t len r ht
  exact kept_pushed s _

theorem pull8_kept (s : State) (p : Byte × State) (h : s.pull8 = .ok p) : Kept s p.2 := by
  obtain rfl := s.pull8_eq p h
  simp [kept_iff]

theorem pull16_kept (s : State) (p : Word × State) (h : s.pull16 = .ok p) : Kept s p.2 := by
  obtain rfl := s.pull16_eq p h
  simp [kept_iff]

theorem pullData_kept (s : State) (w : Width) (p : Word × State) (h : s.pullData w = .ok p) : Kept s p.2 := by
  cases w with
  | w8 =>
    obtain ⟨q, hq, h⟩ := (res_bind_ok _ _ _).1 h
    obtain rfl := Except.ok.inj h
    exact pull8_kept s q hq
  | w16 => exact pull16_kept s p h

theorem pullReg_keeps (s : State) (mw xw : Width) (r : Reg) : ResKeeps s (s.pullReg mw xw r) := by
  cases r with
  | a => exact resKeeps_bindPair (pullData_kept s mw) fun _ => resKeeps_ok (by simp [kept_iff])
  | b => exact resKeeps_bindPair (pullData_kept s mw) fun _ => resKeeps_ok (by simp [kept_iff])
  | x => exact resKeeps_bindPair (pullData_kept s xw) fun _ => resKeeps_ok (by simp [kept_iff])
  | y => exact resKeeps_bindPair (pullData_kept s xw) fun _ => resKeeps_ok (by simp [kept_iff])
  | dpr => exact resKeeps_bindPair (pull16_kept s) fun _ => resKeeps_ok (by simp [kept_iff])
  | dt => exact resKeeps_bindPair (pull8_kept s) fun _ => resKeeps_ok (by simp [kept_iff])
  | pg => exact resKeeps_bindPair (pull8_kept s) fun _ => resKeeps_ok (by simp [kept_iff])
  | ps => exact resKeeps_bindPair (pull16_kept s) fun _ => resKeeps_ok (by simp [kept_iff])

theorem pushSelected_keeps (s : State) (nn : Byte) (l : List (Nat × Reg)) : ResKeeps s (s.pushSelected nn l) := by
  induction l generalizing s with
  | nil => exact resKeeps_ok (Kept.refl s)
  | cons c rest ih =>
    rw [State.pushSelected]
    split
    · exact (pushReg_keeps s (some 2) c.2).bind ih
    · exact ih s

theorem pullSelected_keeps (s : State) (mw xw : Width) (nn : Byte) (l : List (Nat × Reg)) :
    ResKeeps s (s.pullSelected mw xw nn l) := by
  induction l generalizing s with
  | nil => exact resKeeps_ok (Kept.refl s)
  | cons c rest ih =>
    rw [State.pullSelected]
    split
    · exact (pullReg_keeps s mw xw c.2).bind ih
    · exact ih s

/-! Interrupts -/

theorem enterInterrupt_keeps (s : State) (len : Option Nat) (ret vector : Addr) (level : Option (BitVec 3)) :
    ResKeeps s (s.enterInterrupt len ret vector level) :=
  (push8_keeps s len _).bind fun s1 => (push16_keeps s1 len _).bind fun s2 => (push16_keeps s2 len _).bind fun _ =>
    resKeeps_bind fun _ _ => resKeeps_ok (by simp [kept_iff])

theorem leaveInterrupt_keeps (s : State) : ResKeeps s s.leaveInterrupt :=
  (pullReg_keeps s s.mw s.xw .ps).bind fun t => resKeeps_bindPair (pull16_kept t) fun p =>
    (pullReg_keeps p.2 p.2.mw p.2.xw .pg).bind fun _ => resKeeps_ok (by simp [kept_iff])

/-! Block transfers -/

theorem moveByte_keeps (s : State) (d : Direction) (n1 n2 : Byte) (open_ : Bool) : ResKeeps s (s.moveByte d n1 n2 open_) :=
  resKeeps_bind fun _ _ => (storeByte_keeps s (some 3) _ _).bind fun _ => resKeeps_ok (by split <;> simp [kept_iff])

theorem moveBytes_keeps (s : State) (d : Direction) (n1 n2 : Byte) (open_ : Bool) (n : Nat) :
    ResKeeps s (s.moveBytes d n1 n2 open_ n) := by
  induction n generalizing s with
  | zero => exact resKeeps_ok (Kept.refl s)
  | succ n ih => exact (moveByte_keeps s d n1 n2 open_).bind ih

theorem moveEnd_kept (s : State) (n1 : Byte) (count : Nat) : Kept s (s.moveEnd n1 count) := by
  unfold State.moveEnd
  split <;> simp [kept_iff, Nat.add_assoc]

theorem blockTransfer_keeps (d : Direction) (n1 n2 : Byte) (s : State) : ResultKeeps s (blockTransfer d n1 n2 s) := by
  apply ResKeeps.completes
  split
  · exact resKeeps_error s _
  · exact (moveBytes_keeps s d n1 n2 _ _).bind fun u => resKeeps_ok ((moveEnd_kept u n1 _).trans (kept_advance ..))

/-! The effects of arithmetic, shared by the forms of an instruction -/

theorem adc_kept (s : State) (r : Acc) (m : Word) : Kept s (s.adc r m) := by
  unfold State.adc
  dsimp only
  split
  · simp [kept_iff]
  · split <;> simp [kept_iff, Nat.add_assoc]

theorem sbc_kept (s : State) (r : Acc) (m : Word) : Kept s (s.sbc r m) := by
  unfold State.sbc
  dsimp only
  split
  · simp [kept_iff]
  · split <;> simp [kept_iff, Nat.add_assoc]

theorem multiply_kept (s : State) (m : Word) : Kept s (s.multiply m) := by simp [kept_iff, State.multiply]

theorem divide_kept (s : State) (m : Word) : Kept s (s.divide m) := by
  unfold State.divide
  dsimp only
  split <;> simp [kept_iff, Nat.add_assoc]

/-! Families of instructions -/

theorem logic_keeps (f : Word → Word → Word) (r : Acc) (o : Operand) (s : State) : ResultKeeps s (logic f r o s) :=
  resultKeeps_read (s.operand s.mw o) (by simp [kept_iff])

theorem readModifyWrite_keeps (f : Word → Word) (p : Word → PS) (d : Dest) (s : State) :
    ResultKeeps s (readModifyWrite f p d s) := by
  cases d with
  | acc r => exact resultKeeps_done (by simp [kept_iff])
  | mem o =>
    exact (resKeeps_bind fun a _ => resKeeps_bind fun v _ =>
      (storeData_keeps s _ s.mw a (f v)).bind fun _ => resKeeps_ok (by simp [kept_iff])).completes

theorem storeAt_keeps (len : Nat) (w : Width) (o : MemMode) (v : Word) (s : State) : ResultKeeps s (storeAt len w o v s) :=
  (resKeeps_bind fun a _ => (storeData_keeps s len w a v).bind fun _ => resKeeps_ok (by simp [kept_iff])).completes

theorem changeBits_keeps (f : Word → Word → Word) (o : MemMode) (imm : Word) (s : State) :
    ResultKeeps s (changeBits f o imm s) :=
  (resKeeps_bind fun a _ => resKeeps_bind fun v _ =>
    (storeData_keeps s _ s.mw a (f v imm)).bind fun _ => resKeeps_ok (by simp [kept_iff])).completes

theorem branchOnBits_keeps (test : Word → Word → Bool) (o : MemMode) (imm : Word) (rr : Byte) (s : State) :
    ResultKeeps s (branchOnBits test o imm rr s) :=
  (resKeeps_bind fun _ _ => resKeeps_bind fun _ _ => resKeeps_ok (kept_branchIf ..)).completes

theorem execInc_keeps (d : Dest) (s : State) : ResultKeeps s (execInc d s) := readModifyWrite_keeps _ _ d s

theorem execDec_keeps (d : Dest) (s : State) : ResultKeeps s (execDec d s) := readModifyWrite_keeps _ _ d s

theorem shift_keeps (k : Shift) (d : Dest) (s : State) : ResultKeeps s (shift k d s) := readModifyWrite_keeps _ _ d s

theorem execSeb_keeps (o : MemMode) (imm : Word) (s : State) : ResultKeeps s (execSeb o imm s) := changeBits_keeps _ o imm s

theorem execClb_keeps (o : MemMode) (imm : Word) (s : State) : ResultKeeps s (execClb o imm s) := changeBits_keeps _ o imm s

theorem execBbs_keeps (o : MemMode) (imm : Word) (rr : Byte) (s : State) : ResultKeeps s (execBbs o imm rr s) :=
  branchOnBits_keeps _ o imm rr s

theorem execBbc_keeps (o : MemMode) (imm : Word) (rr : Byte) (s : State) : ResultKeeps s (execBbc o imm rr s) :=
  branchOnBits_keeps _ o imm rr s

theorem opPush_keeps (r : Reg) (s : State) : ResultKeeps s (opPush r s) :=
  (pushReg_keeps s _ r).finish (by simp [kept_iff])

theorem pullFlags_kept (s : State) (mw xw : Width) (r : Reg) : Kept s (s.pullFlags mw xw r) := by
  cases r <;> simp [kept_iff, State.pullFlags]

theorem opPull_keeps (r : Reg) (s : State) : ResultKeeps s (opPull r s) :=
  (pullReg_keeps s s.mw s.xw r).finish fun u => (pullFlags_kept u s.mw s.xw r).trans (kept_advance ..)

theorem pulledB_kept (s : State) (m0 : Bool) (nn : Byte) : Kept s (s.pulledB m0 nn) := by
  unfold State.pulledB
  split <;> simp [kept_iff]

theorem execDiv_keeps (o : Operand) (s : State) : ResultKeeps s (execDiv o s) := by
  refine (resKeeps_bind fun m _ => ?_).completes
  split
  · exact resKeeps_error s _
  · exact resKeeps_ok ((divide_kept s m).trans (kept_advance ..))

theorem execPul_keeps (nn : Byte) (s : State) : ResultKeeps s (execPul nn s) := by
  apply ResKeeps.completes
  split
  · exact resKeeps_error s _
  · exact (pullSelected_keeps s s.mw s.xw nn pulOrder).bind fun u =>
      resKeeps_ok ((pulledB_kept u s.ps.m nn).trans (kept_advance ..))

theorem execJmp_keeps (m : JumpMode) (s : State) : ResultKeeps s (execJmp m s) := by
  cases m with
  | abs | abl => exact resultKeeps_done (by simp [kept_iff])
  | absInd mmll => exact resultKeeps_read (s.readWord (addrOf 0 mmll)) (by simp [kept_iff])
  | absIndL mmll => exact resultKeeps_read (s.readLong (addrOf 0 mmll)) (by simp [kept_iff])
  | absXInd mmll => exact resultKeeps_read (s.indexedTarget mmll) (by simp [kept_iff])

theorem execJsr_keeps (m : CallMode) (s : State) : ResultKeeps s (execJsr m s) := by
  cases m with
  | abs mmll => exact (push16_keeps s (some 3) _).finish (by simp [kept_iff])
  | abl hhmmll =>
    exact ((push8_keeps s (some 4) _).bind fun u =>
      (push16_keeps u (some 4) _).bind fun _ => resKeeps_ok (by simp [kept_iff])).completes
  | absXInd mmll =>
    exact ((push16_keeps s (some 3) _).bind fun u => resKeeps_bind fun _ _ => resKeeps_ok (by simp [kept_iff])).completes

theorem execRts_keeps (s : State) : ResultKeeps s (execRts s) :=
  (resKeeps_bindPair (pull16_kept s) fun _ => resKeeps_ok (by simp [kept_iff])).completes

theorem execRtl_keeps (s : State) : ResultKeeps s (execRtl s) :=
  (resKeeps_bindPair (pull16_kept s) fun p =>
    (pullReg_keeps p.2 p.2.mw p.2.xw .pg).bind fun _ => resKeeps_ok (by simp [kept_iff])).completes

/-! Every instruction -/

/-- No instruction changes the parameters, the inputs, the pending requests or the counter of cycles. -/
theorem exec_keeps (i : Instr) (s : State) : ResultKeeps s (exec i s) := by
  cases i with
  | ldt | inx | iny | dex | dey | rla | clc | cli | clm | clv | clp | sec | sei | sem | sep | nop | stp | wit =>
    exact resultKeeps_done (by simp [kept_iff])
  | tad | tbd | tas | tbs | txs | xab => exact resultKeeps_done (by simp [kept_iff])
  | tax | tay | tbx | tby | tsx | txy | tyx | tda | tdb | tsa | tsb | txa | txb | tya | tyb =>
    exact resultKeeps_done (by simp [kept_iff, State.toX, State.toY, State.toAcc])
  | bcc | bcs | beq | bmi | bne | bpl | bvc | bvs => exact resultKeeps_done (kept_branchIf ..)
  | bra d => cases d <;> exact resultKeeps_done (by simp [kept_iff])
  | bbs o imm rr => exact execBbs_keeps o imm rr s
  | bbc o imm rr => exact execBbc_keeps o imm rr s
  | lda r o | cmp r o => exact resultKeeps_read (s.operand s.mw o) (by simp [kept_iff])
  | ldx o | ldy o | cpx o | cpy o => exact resultKeeps_read (s.operand s.xw o) (by simp [kept_iff])
  | adc r o => exact resultKeeps_read (s.operand s.mw o) fun m => (adc_kept s r m).trans (kept_advance ..)
  | sbc r o => exact resultKeeps_read (s.operand s.mw o) fun m => (sbc_kept s r m).trans (kept_advance ..)
  | mpy o => exact resultKeeps_read (s.operand s.mw o) fun m => (multiply_kept s m).trans (kept_advance ..)
  | div o => exact execDiv_keeps o s
  | and r o | ora r o | eor r o => exact logic_keeps _ r o s
  | inc d => exact execInc_keeps d s
  | dec d => exact execDec_keeps d s
  | asl d | lsr d | rol d | ror d => exact shift_keeps _ d s
  | ldm o imm =>
    exact (resKeeps_bind fun a _ => (storeData_keeps s _ s.mw a imm).bind fun _ => resKeeps_ok (by simp [kept_iff])).completes
  | sta _ o | stx o | sty o => exact storeAt_keeps _ _ o _ s
  | seb o imm => exact execSeb_keeps o imm s
  | clb o imm => exact execClb_keeps o imm s
  | pha | phb | phd | phg | php | pht | phx | phy => exact opPush_keeps _ s
  | pla | plb | pld | plp | plt | plx | ply => exact opPull_keeps _ s
  | pea imm => exact (push16_keeps s (some 3) imm).finish (by simp [kept_iff])
  | pei dd =>
    exact (resKeeps_bind fun v _ => (push16_keeps s (some 2) v).bind fun _ => resKeeps_ok (by simp [kept_iff])).completes
  | per imm => exact (push16_keeps s (some 3) _).finish (by simp [kept_iff])
  | psh nn => exact (pushSelected_keeps s nn pshOrder).finish (by simp [kept_iff])
  | pul nn => exact execPul_keeps nn s
  | jmp m => exact execJmp_keeps m s
  | jsr m => exact execJsr_keeps m s
  | rts => exact execRts_keeps s
  | rtl => exact execRtl_keeps s
  | mvn n1 n2 | mvp n1 n2 => exact blockTransfer_keeps _ n1 n2 s
  | brk nn => exact (enterInterrupt_keeps s (some 2) _ _ none).completes
  | rti => exact (leaveInterrupt_keeps s).completes

end Sys2Proof.Machine
end

section
/-! SUPPORT. The instruction boundary and what one step can do, said once (R335, R339). -/

namespace Sys2Proof.Machine

@[simp] theorem State.atBoundary_cfg (s : State) : s.atBoundary.cfg = s.cfg := by
  unfold State.atBoundary
  split <;> rfl

@[simp] theorem State.atBoundary_inputs (s : State) : s.atBoundary.inputs = s.inputs.tail := by
  unfold State.atBoundary
  split <;> simp [*]

@[simp] theorem State.atBoundary_free (s : State) : s.atBoundary.free = s.free := by
  unfold State.atBoundary
  split <;> rfl

@[simp] theorem State.atBoundary_cycles (s : State) : s.atBoundary.cycles = s.cycles := by
  unfold State.atBoundary
  split <;> rfl

/-- The four ways in which a step of `s` ends in `t`, each with the condition of the boundary under which it is taken. -/
inductive Stepped (s t : State) : Prop where
  | reset (now : s.resetNow = true) (done : s.atBoundary.resetSequence = .ok t)
  | interrupt (k : Nat) (src : IntSource) (now : s.resetNow = false) (chosen : s.atBoundary.accepted = some (k, src))
      (done : s.atBoundary.acceptRequest k src = .ok t)
  | asleep (now : s.resetNow = false) (none : s.atBoundary.accepted = none) (run : s.atBoundary.run ≠ .running)
      (done : t = s.atBoundary)
  | instruction (i : Instr) (u : State) (now : s.resetNow = false) (none : s.atBoundary.accepted = none)
      (run : s.atBoundary.run = .running) (fetched : s.atBoundary.fetch = .instr i) (ran : exec i s.atBoundary = .next u)
      (done : t = { u with cycles := u.cycles + minCycles i s.atBoundary })

theorem land_next (r : Res State) (t : State) : land r = .next t ↔ r = .ok t := by
  cases r <;> simp [land]

theorem counting_next (n : Nat) (r : Result) (t : State) :
    Result.counting n r = .next t ↔ ∃ u, r = .next u ∧ t = { u with cycles := u.cycles + n } := by
  cases r <;> simp [Result.counting, eq_comm]

theorem step_iff (s t : State) : step s = .next t ↔ Stepped s t := by
  constructor
  · intro h
    unfold step State.boundary at h
    dsimp only at h
    cases now : s.resetNow with
    | true => exact .reset now ((land_next _ t).1 (by simpa [now] using h))
    | false =>
      cases chosen : s.atBoundary.accepted with
      | some p => exact .interrupt p.1 p.2 now chosen ((land_next _ t).1 (by simpa [now, chosen] using h))
      | none =>
        by_cases run : s.atBoundary.run = .running
        · simp only [now, chosen, run] at h
          cases fetched : s.atBoundary.fetch with
          | instr i =>
            obtain ⟨u, ran, done⟩ := (counting_next _ _ t).1 (by simpa [fetched] using h)
            exact .instruction i u now chosen run fetched ran done
          | fault f => simp [fetched] at h
          | refused r => simp [fetched] at h
        · exact .asleep now chosen run (by simpa [now, chosen, run, eq_comm] using h)
  · intro h
    unfold step State.boundary
    dsimp only
    cases h with
    | reset now done => simp [now, land_next, done]
    | interrupt k src now chosen done => simp [now, chosen, land_next, done]
    | asleep now none run done => simp [now, none, run, done]
    | instruction i u now none run fetched ran done => simp [now, none, run, fetched, ran, done, Result.counting]

/-- Taking a request clears it and keeps all else an instruction keeps. -/
theorem acceptRequest_keeps (s : State) (k : Nat) (src : IntSource) :
    ResKeeps (s.setPending (s.pending.filter (· ≠ k))) (s.acceptRequest k src) :=
  enterInterrupt_keeps _ none _ _ _

end Sys2Proof.Machine
end

section
/-! SUPPORT. Proofs of the statements about the scope: what no step changes (00_scope.md R6, 60_exceptions.md R338). -/

namespace Sys2Proof.Machine

/-- Settles O11: the boundary uses up one input; after it, each of the four kinds of step keeps the parameters and the inputs,
and lets the counters only rise. -/
theorem stepKeepsConfig : Obligations.StepKeepsConfig := by
  intro s t h
  rw [← s.atBoundary_cfg, ← s.atBoundary_inputs, ← s.atBoundary_free, ← s.atBoundary_cycles]
  cases (step_iff s t).1 h with
  | reset _ done =>
    obtain ⟨p, rfl⟩ := State.resetSequence_cases _ t done
    exact ⟨rfl, rfl, le_rfl, le_rfl⟩
  | interrupt k src _ _ done =>
    have kept := acceptRequest_keeps _ k src t done
    exact ⟨kept.cfg, kept.inputs, kept.free, kept.cycles.ge⟩
  | asleep _ _ _ done =>
    subst done
    exact ⟨rfl, rfl, le_rfl, le_rfl⟩
  | instruction i u _ _ _ _ ran done =>
    have kept := exec_keeps i _ u ran
    subst done
    exact ⟨kept.cfg, kept.inputs, kept.free, kept.cycles.ge.trans (Nat.le_add_right _ _)⟩

end Sys2Proof.Machine
end

section
/-! SUPPORT. Where an instruction ends and what it makes of IPL, said once for each shared operation and then for each
instruction (R22, R27). The shared operations leave PG:PC and IPL alone; the instruction itself then moves PG:PC. -/

namespace Sys2Proof.Machine

/-! Postconditions of operations that can be refused -/

/-- Wherever the operation answers, `P` holds of the answer. -/
def Yields {α : Type} (P : α → Prop) (r : Res α) : Prop := ∀ a, r = .ok a → P a

/-- Wherever the instruction ends in a state, `P` holds of that state. -/
def Ends (P : State → Prop) (r : Result) : Prop := ∀ t, r = .next t → P t

theorem yields_ok {α : Type} {P : α → Prop} {a : α} (h : P a) : Yields P (.ok a) := by
  intro b hb
  obtain rfl := Except.ok.inj hb
  exact h

theorem yields_error {α : Type} (P : α → Prop) (e : Refusal) : Yields P (.error e) := by
  intro b hb
  cases hb

/-- The start of a sequence of which only the rest matters. -/
theorem yields_any {α : Type} (r : Res α) : Yields (fun _ => True) r := fun _ _ => trivial

theorem Yields.bind {α β : Type} {Q : α → Prop} {P : β → Prop} {x : Res α} {f : α → Res β} (hx : Yields Q x)
    (hf : ∀ a, Q a → Yields P (f a)) : Yields P (x >>= f) := by
  intro b hb
  obtain ⟨a, ha, hfa⟩ := (res_bind_ok _ _ _).1 hb
  exact hf a (hx a ha) b hfa

theorem Yields.completes {P : State → Prop} {r : Res State} (h : Yields P r) : Ends P (complete r) :=
  fun t ht => h t ((complete_next r t).1 ht).1

/-- An instruction that nothing can refuse before its end. -/
theorem ends_done {P : State → Prop} {t : State} (h : P t) : Ends P (complete (pure t)) := (yields_ok h).completes

/-- An instruction that reads one value and then only updates the state. -/
theorem ends_read {α : Type} {P : State → Prop} (x : Res α) {f : α → State} (h : ∀ a, P (f a)) :
    Ends P (complete (x >>= fun a => pure (f a))) :=
  ((yields_any x).bind fun a _ => yields_ok (h a)).completes

/-! States at the same address with the same IPL, and the move past an instruction -/

/-- PG and PC are the same in both states, and so is IPL unless it is loaded in between. -/
structure Stays (loads : Bool) (s u : State) : Prop where
  pg : u.pg = s.pg
  pc : u.pc = s.pc
  ipl : loads = false → u.ps.ipl = s.ps.ipl

/-- From `s` to `t` the machine moves `n` bytes on, with IPL as it was unless it is loaded in between. -/
structure Passed (n : Nat) (loads : Bool) (s t : State) : Prop where
  pcAddr : t.pcAddr = s.nextPC n
  ipl : loads = false → t.ps.ipl = s.ps.ipl

/-- Field by field, so that the lemmas about the fields of an updated state decide it. -/
theorem stays_iff (loads : Bool) (s u : State) :
    Stays loads s u ↔ u.pg = s.pg ∧ u.pc = s.pc ∧ (loads = false → u.ps.ipl = s.ps.ipl) :=
  ⟨fun h => ⟨h.pg, h.pc, h.ipl⟩, fun ⟨pg, pc, ipl⟩ => ⟨pg, pc, ipl⟩⟩

@[simp] theorem Stays.refl (loads : Bool) (s : State) : Stays loads s s := ⟨rfl, rfl, fun _ => rfl⟩

theorem Stays.trans {loads : Bool} {s t u : State} (h : Stays loads s t) (k : Stays loads t u) : Stays loads s u :=
  ⟨k.pg.trans h.pg, k.pc.trans h.pc, fun hl => (k.ipl hl).trans (h.ipl hl)⟩

theorem Stays.nextPC {loads : Bool} {s u : State} (h : Stays loads s u) (n : Nat) : u.nextPC n = s.nextPC n := by
  simp only [State.nextPC, State.pcAddr, h.pg, h.pc]

theorem Stays.passed {loads : Bool} {s u : State} (h : Stays loads s u) (n : Nat) : Passed n loads s (u.advance n) :=
  ⟨(u.advance_pcAddr n).trans (h.nextPC n), h.ipl⟩

/-- The run state, which STP and WIT enter after the move (R345, R346), is neither an address nor IPL. -/
theorem passed_setRun_iff (n : Nat) (loads : Bool) (s t : State) (r : RunState) :
    Passed n loads s (t.setRun r) ↔ Passed n loads s t :=
  ⟨fun h => ⟨h.pcAddr, h.ipl⟩, fun h => ⟨h.pcAddr, h.ipl⟩⟩

/-- An instruction that only updates the state and moves on. -/
theorem passed_done {n : Nat} {loads : Bool} {s u : State} (h : Stays loads s u) :
    Ends (Passed n loads s) (complete (pure (u.advance n))) :=
  ends_done (h.passed n)

/-- An instruction that reads one value, updates the state and moves on. -/
theorem passed_read {α : Type} {n : Nat} {loads : Bool} {s : State} (x : Res α) {f : α → State}
    (h : ∀ a, Stays loads s (f a)) : Ends (Passed n loads s) (complete (x >>= fun a => pure ((f a).advance n))) :=
  ends_read x fun a => (h a).passed n

/-- An operation on memory or the stack, some updates of the state, and the move past the instruction. -/
theorem Yields.advances {n : Nat} {loads : Bool} {s : State} {x : Res State} {f : State → State}
    (hx : Yields (Stays loads s) x) (hf : ∀ u, Stays loads u (f u)) :
    Yields (Passed n loads s) (x >>= fun u => pure ((f u).advance n)) :=
  hx.bind fun u hu => yields_ok ((hu.trans (hf u)).passed n)

/-! IPL is no part of what the flag operations write -/

@[simp] theorem PS.withLow_ipl (p : PS) (b : Byte) : (p.withLow b).ipl = p.ipl := rfl
@[simp] theorem PS.withNZ_ipl (p : PS) (w : Width) (v : Word) : (p.withNZ w v).ipl = p.ipl := rfl
@[simp] theorem PS.freeNVZC_ipl (p : PS) (f : Word) : (p.freeNVZC f).ipl = p.ipl := rfl
@[simp] theorem PS.freeNVZ_ipl (p : PS) (f : Word) : (p.freeNVZ f).ipl = p.ipl := rfl
@[simp] theorem PS.freeNV_ipl (p : PS) (f : Word) : (p.freeNV f).ipl = p.ipl := rfl
@[simp] theorem PS.afterAdd_ipl (p : PS) (w : Width) (a m : Word) : (p.afterAdd w a m).ipl = p.ipl := rfl
@[simp] theorem PS.afterSub_ipl (p : PS) (w : Width) (a m : Word) : (p.afterSub w a m).ipl = p.ipl := rfl
@[simp] theorem PS.afterCompare_ipl (p : PS) (w : Width) (a m : Word) : (p.afterCompare w a m).ipl = p.ipl := rfl
@[simp] theorem PS.afterShift_ipl (p : PS) (k : Shift) (w : Width) (v : Word) : (p.afterShift k w v).ipl = p.ipl := rfl
@[simp] theorem PS.afterMultiply_ipl (p : PS) (w : Width) (a m f : Word) : (p.afterMultiply w a m f).ipl = p.ipl := rfl

section

variable (loads : Bool) (s : State)

/-! Stores and pushes -/

theorem storeData_stays (n : Nat) (w : Width) (a : Addr) (v : Word) : Yields (Stays loads s) (s.storeData n w a v) := by
  intro t ht
  obtain ⟨m, rfl, -⟩ := s.storeData_eq t n w a v ht
  simp [stays_iff]

theorem push16_stays (len : Option Nat) (v : Word) : Yields (Stays loads s) (s.push16 len v) := by
  intro t ht
  obtain rfl := s.push16_eq t len v ht
  simp [stays_iff]

theorem pushReg_stays (len : Option Nat) (r : Reg) : Yields (Stays loads s) (s.pushReg len r) := by
  intro t ht
  obtain rfl := s.pushReg_eq t len r ht
  simp [stays_iff]

theorem pushSelected_stays (nn : Byte) (l : List (Nat × Reg)) : Yields (Stays loads s) (s.pushSelected nn l) := by
  induction l generalizing s with
  | nil => exact yields_ok (Stays.refl loads s)
  | cons c rest ih =>
    rw [State.pushSelected]
    split
    · exact (pushReg_stays loads s (some 2) c.2).bind fun u hu t ht => hu.trans (ih u t ht)
    · exact ih s

/-! Pulls: only a pull of PG writes PG, only a pull of PS writes IPL -/

theorem pull8_stays : Yields (fun p => Stays loads s p.2) s.pull8 := by
  intro p hp
  obtain rfl := s.pull8_eq p hp
  simp [stays_iff]

theorem pull16_stays : Yields (fun p => Stays loads s p.2) s.pull16 := by
  intro p hp
  obtain rfl := s.pull16_eq p hp
  simp [stays_iff]

theorem pullData_stays (w : Width) : Yields (fun p => Stays loads s p.2) (s.pullData w) := by
  cases w with
  | w8 => exact (pull8_stays loads s).bind fun _ h => yields_ok h
  | w16 => exact pull16_stays loads s

theorem pullReg_stays (mw xw : Width) (r : Reg) (hpg : r ≠ .pg) (hps : r = .ps → loads = true) :
    Yields (Stays loads s) (s.pullReg mw xw r) := by
  cases r with
  | a | b => exact (pullData_stays loads s mw).bind fun _ h => yields_ok (h.trans (by simp [stays_iff]))
  | x | y => exact (pullData_stays loads s xw).bind fun _ h => yields_ok (h.trans (by simp [stays_iff]))
  | dpr => exact (pull16_stays loads s).bind fun _ h => yields_ok (h.trans (by simp [stays_iff]))
  | dt => exact (pull8_stays loads s).bind fun _ h => yields_ok (h.trans (by simp [stays_iff]))
  | pg => exact absurd rfl hpg
  | ps => exact (pull16_stays loads s).bind fun _ h => yields_ok (h.trans (by simp [stays_iff, hps rfl]))

theorem pullSelected_stays (mw xw : Width) (nn : Byte) (l : List (Nat × Reg)) (hpg : ∀ c ∈ l, c.2 ≠ .pg)
    (hps : ∀ c ∈ l, nn.getLsbD c.1 = true → c.2 = .ps → loads = true) :
    Yields (Stays loads s) (s.pullSelected mw xw nn l) := by
  induction l generalizing s with
  | nil => exact yields_ok (Stays.refl loads s)
  | cons c rest ih =>
    obtain ⟨hc, hrest⟩ := List.forall_mem_cons.1 hpg
    obtain ⟨kc, krest⟩ := List.forall_mem_cons.1 hps
    rw [State.pullSelected]
    split
    · next hbit =>
      exact (pullReg_stays loads s mw xw c.2 hc (kc hbit)).bind fun u hu t ht => hu.trans (ih u hrest krest t ht)
    · exact ih s hrest krest

/-- PG is not among the registers PUL restores, and PS is the one of bit 7 (R254). -/
theorem pulOrder_stays (mw xw : Width) (nn : Byte) (h : nn.getLsbD 7 = true → loads = true) :
    Yields (Stays loads s) (s.pullSelected mw xw nn pulOrder) := by
  apply pullSelected_stays
  · decide
  · intro c hc hbit hps
    have h7 : c.1 = 7 := (show ∀ c ∈ pulOrder, c.2 = .ps → c.1 = 7 by decide) c hc hps
    exact h (h7 ▸ hbit)

/-! Block transfers -/

theorem moveByte_stays (d : Direction) (n1 n2 : Byte) (open_ : Bool) :
    Yields (Stays loads s) (s.moveByte d n1 n2 open_) := by
  refine (yields_any _).bind fun v _ => Yields.bind (Q := Stays loads s) ?_ fun u hu => yields_ok (hu.trans ?_)
  · intro u hu
    obtain rfl := s.storeByte_eq u _ _ _ hu
    simp [stays_iff]
  · split <;> simp [stays_iff]

theorem moveBytes_stays (d : Direction) (n1 n2 : Byte) (open_ : Bool) (n : Nat) :
    Yields (Stays loads s) (s.moveBytes d n1 n2 open_ n) := by
  induction n generalizing s with
  | zero => exact yields_ok (Stays.refl loads s)
  | succ n ih => exact (moveByte_stays loads s d n1 n2 open_).bind fun u hu t ht => hu.trans (ih u t ht)

theorem moveEnd_stays (n1 : Byte) (count : Nat) : Stays loads s (s.moveEnd n1 count) := by
  unfold State.moveEnd
  split <;> simp [stays_iff]

/-! The effects of arithmetic, shared by the forms of an instruction -/

theorem adc_stays (r : Acc) (m : Word) : Stays loads s (s.adc r m) := by
  unfold State.adc
  dsimp only
  split
  · simp [stays_iff]
  · split <;> simp [stays_iff]

theorem sbc_stays (r : Acc) (m : Word) : Stays loads s (s.sbc r m) := by
  unfold State.sbc
  dsimp only
  split
  · simp [stays_iff]
  · split <;> simp [stays_iff]

theorem multiply_stays (m : Word) : Stays loads s (s.multiply m) := by simp [stays_iff, State.multiply]

theorem divide_stays (m : Word) : Stays loads s (s.divide m) := by
  unfold State.divide
  dsimp only
  split <;> simp [stays_iff]

theorem pullFlags_stays (mw xw : Width) (r : Reg) : Stays loads s (s.pullFlags mw xw r) := by
  cases r <;> simp [stays_iff, State.pullFlags]

theorem pulledB_stays (m0 : Bool) (nn : Byte) : Stays loads s (s.pulledB m0 nn) := by
  unfold State.pulledB
  split <;> simp [stays_iff]

/-! Families of instructions that end at the address after them -/

theorem blockTransfer_passed (d : Direction) (n1 n2 : Byte) : Ends (Passed 3 loads s) (blockTransfer d n1 n2 s) := by
  apply Yields.completes
  split
  · exact yields_error _ _
  · exact (moveBytes_stays loads s d n1 n2 _ _).advances fun u => moveEnd_stays loads u n1 _

theorem execDiv_passed (o : Operand) : Ends (Passed (2 + o.length s.mw) loads s) (execDiv o s) := by
  refine ((yields_any _).bind fun m _ => ?_).completes
  split
  · exact yields_error _ _
  · exact yields_ok ((divide_stays loads s m).passed _)

theorem execPul_passed (nn : Byte) : Ends (Passed 2 (nn.getLsbD 7) s) (execPul nn s) := by
  apply Yields.completes
  split
  · exact yields_error _ _
  · exact (pulOrder_stays _ s s.mw s.xw nn id).advances fun u => pulledB_stays _ u s.ps.m nn

theorem logic_passed (f : Word → Word → Word) (r : Acc) (o : Operand) :
    Ends (Passed (r.codeBytes + o.length s.mw) loads s) (logic f r o s) :=
  passed_read (s.operand s.mw o) (by simp [stays_iff])

/-- A read-modify-write whose flags leave IPL alone. -/
theorem readModifyWrite_passed (f : Word → Word) (p : Word → PS) (d : Dest) (hp : ∀ v, (p v).ipl = s.ps.ipl) :
    Ends (Passed d.length loads s) (readModifyWrite f p d s) := by
  cases d with
  | acc r => exact passed_done (by simp [stays_iff, hp])
  | mem o =>
    refine ((yields_any _).bind fun a _ => (yields_any _).bind fun v _ =>
      (storeData_stays loads s _ s.mw a (f v)).bind fun u hu => yields_ok (Stays.passed ?_ _)).completes
    exact ⟨by simpa using hu.pg, by simpa using hu.pc, fun _ => by simpa using hp v⟩

theorem execInc_passed (d : Dest) : Ends (Passed d.length loads s) (execInc d s) :=
  readModifyWrite_passed loads s _ _ d fun _ => PS.withNZ_ipl ..

theorem execDec_passed (d : Dest) : Ends (Passed d.length loads s) (execDec d s) :=
  readModifyWrite_passed loads s _ _ d fun _ => PS.withNZ_ipl ..

theorem shift_passed (k : Shift) (d : Dest) : Ends (Passed d.length loads s) (shift k d s) :=
  readModifyWrite_passed loads s _ _ d fun _ => PS.afterShift_ipl ..

/-- A store at an effective address, with the move past the instruction. -/
theorem store_passed (n : Nat) (w : Width) (o : MemMode) (v : Word) : Ends (Passed n loads s)
    (complete (s.ea o >>= fun a => s.storeData n w a v >>= fun t => pure (t.advance n))) :=
  ((yields_any _).bind fun a _ => (storeData_stays loads s n w a v).advances (Stays.refl loads)).completes

theorem changeBits_passed (f : Word → Word → Word) (o : MemMode) (imm : Word) :
    Ends (Passed (1 + o.length + bytesOf s.mw) loads s) (changeBits f o imm s) :=
  ((yields_any _).bind fun a _ => (yields_any _).bind fun v _ =>
    (storeData_stays loads s _ s.mw a (f v imm)).advances (Stays.refl loads)).completes

theorem execSeb_passed (o : MemMode) (imm : Word) :
    Ends (Passed (1 + o.length + bytesOf s.mw) loads s) (execSeb o imm s) :=
  changeBits_passed loads s _ o imm

theorem execClb_passed (o : MemMode) (imm : Word) :
    Ends (Passed (1 + o.length + bytesOf s.mw) loads s) (execClb o imm s) :=
  changeBits_passed loads s _ o imm

theorem opPush_passed (r : Reg) : Ends (Passed r.stackLength loads s) (opPush r s) :=
  ((pushReg_stays loads s _ r).advances (Stays.refl loads)).completes

theorem opPull_passed (r : Reg) (hpg : r ≠ .pg) (hps : r = .ps → loads = true) :
    Ends (Passed r.stackLength loads s) (opPull r s) :=
  ((pullReg_stays loads s s.mw s.xw r hpg hps).advances fun u => pullFlags_stays loads u s.mw s.xw r).completes

theorem execPei_passed (dd : Byte) : Ends (Passed 2 loads s) (execPei dd s) :=
  ((yields_any _).bind fun v _ => (push16_stays loads s (some 2) v).advances (Stays.refl loads)).completes

end

/-! Every instruction -/

/-- An instruction that does not transfer control ends at the address after it, and keeps IPL unless it loads it. -/
theorem exec_passed (i : Instr) (s : State) (h : transfersControl i = false) :
    Ends (Passed (s.lengthOf i) (loadsIpl i) s) (exec i s) := by
  cases i with
  | ldt | inx | iny | dex | dey | rla | clc | cli | clm | clv | clp | sec | sei | sem | sep | nop =>
    exact passed_done (by simp [stays_iff])
  | tad | tbd | tas | tbs | txs | xab => exact passed_done (by simp [stays_iff])
  | tax | tay | tbx | tby | tsx | txy | tyx | tda | tdb | tsa | tsb | txa | txb | tya | tyb =>
    exact passed_done (by simp [stays_iff, State.toX, State.toY, State.toAcc])
  | stp | wit => exact ends_done ((passed_setRun_iff ..).2 ((Stays.refl _ s).passed 1))
  | lda r o | cmp r o => exact passed_read (s.operand s.mw o) (by simp [stays_iff])
  | ldx o | ldy o | cpx o | cpy o => exact passed_read (s.operand s.xw o) (by simp [stays_iff])
  | adc r o => exact passed_read (s.operand s.mw o) (adc_stays _ s r)
  | sbc r o => exact passed_read (s.operand s.mw o) (sbc_stays _ s r)
  | mpy o => exact passed_read (s.operand s.mw o) (multiply_stays _ s)
  | div o => exact execDiv_passed _ s o
  | and r o | ora r o | eor r o => exact logic_passed _ s _ r o
  | inc d => exact execInc_passed _ s d
  | dec d => exact execDec_passed _ s d
  | asl d | lsr d | rol d | ror d => exact shift_passed _ s _ d
  | ldm o imm => exact store_passed _ s _ s.mw o imm
  | sta r o => exact store_passed _ s _ s.mw o (s.acc r)
  | stx o => exact store_passed _ s _ s.xw o s.x
  | sty o => exact store_passed _ s _ s.xw o s.y
  | seb o imm => exact execSeb_passed _ s o imm
  | clb o imm => exact execClb_passed _ s o imm
  | pha | phb | phd | phg | php | pht | phx | phy => exact opPush_passed _ s _
  | pla | plb | pld | plp | plt | plx | ply => exact opPull_passed _ s _ (by decide) (by decide)
  | pea imm => exact ((push16_stays _ s (some 3) imm).advances (Stays.refl _)).completes
  | pei dd => exact execPei_passed _ s dd
  | per imm => exact ((push16_stays _ s (some 3) _).advances (Stays.refl _)).completes
  | psh nn => exact ((pushSelected_stays _ s nn pshOrder).advances (Stays.refl _)).completes
  | pul nn => exact execPul_passed s nn
  | mvn n1 n2 | mvp n1 n2 => exact blockTransfer_passed _ s _ n1 n2
  | bcc | bcs | beq | bmi | bne | bpl | bvc | bvs | bra | bbs | bbc | jmp | jsr | rts | rtl | brk | rti => cases h

/-! Instructions that transfer control -/

/-- IPL is the same in both states. -/
def SameIpl (s t : State) : Prop := t.ps.ipl = s.ps.ipl

theorem sameIpl_goto (s : State) (a : Addr) : SameIpl s (s.goto a) := rfl

theorem sameIpl_setPc (s : State) (v : Word) : SameIpl s (s.setPc v) := rfl

theorem sameIpl_branchIf (s : State) (taken : Bool) (len : Nat) (rr : Byte) : SameIpl s (s.branchIf taken len rr) := rfl

theorem SameIpl.trans {s t u : State} (h : SameIpl s t) (k : SameIpl t u) : SameIpl s u := Eq.trans k h

theorem opBranch_sameIpl (s : State) (c : Cond) (rr : Byte) : Ends (SameIpl s) (opBranch c rr s) :=
  ends_done (sameIpl_branchIf ..)

theorem branchOnBits_sameIpl (s : State) (test : Word → Word → Bool) (o : MemMode) (imm : Word) (rr : Byte) :
    Ends (SameIpl s) (branchOnBits test o imm rr s) :=
  ((yields_any _).bind fun _ _ => (yields_any _).bind fun _ _ => yields_ok (sameIpl_branchIf ..)).completes

theorem execBbs_sameIpl (s : State) (o : MemMode) (imm : Word) (rr : Byte) : Ends (SameIpl s) (execBbs o imm rr s) :=
  branchOnBits_sameIpl s _ o imm rr

theorem execBbc_sameIpl (s : State) (o : MemMode) (imm : Word) (rr : Byte) : Ends (SameIpl s) (execBbc o imm rr s) :=
  branchOnBits_sameIpl s _ o imm rr

theorem execBra_sameIpl (s : State) (d : Displacement) : Ends (SameIpl s) (execBra d s) := by
  cases d <;> exact ends_done (sameIpl_goto ..)

theorem execJmp_sameIpl (s : State) (m : JumpMode) : Ends (SameIpl s) (execJmp m s) := by
  cases m with
  | abs mmll => exact ends_done (sameIpl_setPc s mmll)
  | abl hhmmll => exact ends_done (sameIpl_goto s hhmmll)
  | absInd mmll => exact ends_read (s.readWord (addrOf 0 mmll)) (sameIpl_setPc s)
  | absIndL mmll => exact ends_read (s.readLong (addrOf 0 mmll)) (sameIpl_goto s)
  | absXInd mmll => exact ends_read (s.indexedTarget mmll) (sameIpl_setPc s)

theorem push8_sameIpl (s : State) (len : Option Nat) (v : Byte) : Yields (SameIpl s) (s.push8 len v) := by
  intro t ht
  obtain rfl := s.push8_eq t len v ht
  rfl

theorem push16_sameIpl (s : State) (len : Option Nat) (v : Word) : Yields (SameIpl s) (s.push16 len v) :=
  fun t ht => (push16_stays false s len v t ht).ipl rfl

theorem execJsr_sameIpl (s : State) (m : CallMode) : Ends (SameIpl s) (execJsr m s) := by
  cases m with
  | abs mmll =>
    exact ((push16_sameIpl s (some 3) _).bind fun u hu => yields_ok (hu.trans (sameIpl_setPc u mmll))).completes
  | abl hhmmll =>
    exact ((push8_sameIpl s (some 4) _).bind fun u hu => (push16_sameIpl u (some 4) _).bind fun v hv =>
      yields_ok ((hu.trans hv).trans (sameIpl_goto v hhmmll))).completes
  | absXInd mmll =>
    exact ((push16_sameIpl s (some 3) _).bind fun u hu => (yields_any _).bind fun p _ =>
      yields_ok (hu.trans (sameIpl_setPc u p))).completes

theorem pull16_sameIpl (s : State) : Yields (fun p => SameIpl s p.2) s.pull16 :=
  fun p hp => (pull16_stays false s p hp).ipl rfl

theorem pullPg_sameIpl (s : State) (mw xw : Width) : Yields (SameIpl s) (s.pullReg mw xw .pg) :=
  (pull8_stays false s).bind fun _ hp => yields_ok (hp.ipl rfl)

theorem execRts_sameIpl (s : State) : Ends (SameIpl s) (execRts s) :=
  ((pull16_sameIpl s).bind fun p hp => yields_ok (hp.trans (sameIpl_setPc p.2 p.1))).completes

theorem execRtl_sameIpl (s : State) : Ends (SameIpl s) (execRtl s) :=
  ((pull16_sameIpl s).bind fun p hp => (pullPg_sameIpl p.2 _ _).bind fun u hu =>
    yields_ok ((hp.trans hu).trans (sameIpl_setPc u p.1))).completes

/-- Taking an interrupt without a level writes back IPL as it was before the pushes (R337). -/
theorem enterInterrupt_sameIpl (s : State) (len : Option Nat) (ret vector : Addr) :
    Yields (SameIpl s) (s.enterInterrupt len ret vector none) :=
  (yields_any _).bind fun _ _ => (yields_any _).bind fun _ _ => (yields_any _).bind fun _ _ =>
    (yields_any _).bind fun _ _ => yields_ok (by simp [SameIpl])

/-- Of the instructions that transfer control, only RTI writes IPL. -/
theorem exec_transfer_sameIpl (i : Instr) (s : State) (h : transfersControl i = true) (hl : loadsIpl i = false) :
    Ends (SameIpl s) (exec i s) := by
  cases i with
  | bcc | bcs | beq | bmi | bne | bpl | bvc | bvs => exact opBranch_sameIpl s _ _
  | bra d => exact execBra_sameIpl s d
  | bbs o imm rr => exact execBbs_sameIpl s o imm rr
  | bbc o imm rr => exact execBbc_sameIpl s o imm rr
  | jmp m => exact execJmp_sameIpl s m
  | jsr m => exact execJsr_sameIpl s m
  | rts => exact execRts_sameIpl s
  | rtl => exact execRtl_sameIpl s
  | brk nn => exact (enterInterrupt_sameIpl s (some 2) _ _).completes
  | rti => cases hl
  | _ => cases h

end Sys2Proof.Machine
end

section
/-! SUPPORT. Proofs of the whole-machine rules about the registers of 10_state.md: IPL and the program counter (R22, R27). -/

namespace Sys2Proof.Machine

/-- Settles O58: an instruction that moves past itself keeps IPL unless it loads it, and of those that transfer control only
RTI loads it. -/
theorem iplWriters : Obligations.IplWriters := by
  intro i s t ht hl
  cases hc : transfersControl i with
  | false => exact (exec_passed i s hc t ht).ipl hl
  | true => exact exec_transfer_sameIpl i s hc hl t ht

/-- Settles O59: the address after the instruction is a sum of 24-bit words, which carries from PC into PG. -/
theorem sequentialAdvance : Obligations.SequentialAdvance := by
  intro i s t ht hc
  rw [(exec_passed i s hc t ht).pcAddr, State.nextPC, BitVec.toNat_add, BitVec.toNat_ofNat, Nat.add_mod_mod]

end Sys2Proof.Machine
end

section
/-! SUPPORT. How a step keeps the invariant: what the boundary, reset, the acceptance of a request and an instruction make of
each of its parts. -/

namespace Sys2Proof.Machine

/-! The pending requests -/

theorem pendingInRange_iff (s : State) : pendingInRange s = true ↔ ∀ k ∈ s.pending, k < s.cfg.intSources.length := by
  simp [pendingInRange]

theorem addRequests_inRange (n : Nat) (p l : List Nat) (h : ∀ k ∈ p, k < n) : ∀ k ∈ addRequests n p l, k < n := by
  intro k hk
  rcases (mem_addRequests n p l k).1 hk with hp | ⟨_, hn⟩
  · exact h k hp
  · exact hn

/-! The processor mode and the banks (R365) -/

theorem banksLegal_iff (c : Config) (pg dt : Byte) :
    banksLegal c pg dt = true ↔ (c.mode = .singleChip → pg = 0 ∧ dt = 0) := by
  cases hm : c.mode <;> simp [banksLegal, hm]

/-- Program bank 00 is legal wherever DT was legal beside another program bank. -/
theorem banksLegal_zero (c : Config) (pg dt : Byte) (h : banksLegal c pg dt = true) : banksLegal c 0 dt = true := by
  rw [banksLegal_iff] at *
  exact fun hm => ⟨rfl, (h hm).2⟩

theorem complete_banksLegal (r : Res State) : Ends (fun t => banksLegal t.cfg t.pg t.dt = true) (complete r) :=
  fun t ht => ((complete_next r t).1 ht).2

/-- An instruction that nothing but its end can refuse. -/
theorem done_banksLegal (t : State) : Ends (fun t => banksLegal t.cfg t.pg t.dt = true) (complete (pure t)) :=
  complete_banksLegal _

/-- Every instruction ends with banks that the processor mode allows, since every meaning ends in `complete`. -/
theorem exec_banksLegal (i : Instr) (s : State) : Ends (fun t => banksLegal t.cfg t.pg t.dt = true) (exec i s) := by
  cases i with
  | ldt | inx | iny | dex | dey | rla | clc | cli | clm | clv | clp | sec | sei | sem | sep | nop | stp | wit | tad | tbd | tas
  | tbs | txs | xab | tax | tay | tbx | tby | tsx | txy | tyx | tda | tdb | tsa | tsb | txa | txb | tya | tyb | bcc | bcs | beq
  | bmi | bne | bpl | bvc | bvs => exact done_banksLegal _
  | bra d => cases d <;> exact done_banksLegal _
  | jmp m =>
    cases m with
    | abs | abl => exact done_banksLegal _
    | absInd | absIndL | absXInd => exact complete_banksLegal _
  | jsr m => cases m <;> exact complete_banksLegal _
  | _ => exact complete_banksLegal _

theorem push8_dt (s : State) (len : Option Nat) (v : Byte) : Yields (fun t => t.dt = s.dt) (s.push8 len v) :=
  fun t ht => (congrArg State.dt (s.push8_eq t len v ht)).trans (s.pushed_dt _)

theorem push16_dt (s : State) (len : Option Nat) (v : Word) : Yields (fun t => t.dt = s.dt) (s.push16 len v) :=
  fun t ht => (congrArg State.dt (s.push16_eq t len v ht)).trans (s.pushed_dt _)

/-- Taking an interrupt makes PG 00 and leaves DT (R337). -/
theorem enterInterrupt_banks (s : State) (len : Option Nat) (ret vector : Addr) (level : Option (BitVec 3)) :
    Yields (fun t => t.pg = 0 ∧ t.dt = s.dt) (s.enterInterrupt len ret vector level) :=
  (push8_dt s len _).bind fun s1 h1 => (push16_dt s1 len _).bind fun s2 h2 => (push16_dt s2 len _).bind fun _ h3 =>
    (yields_any _).bind fun _ _ => yields_ok ⟨rfl, (h3.trans h2).trans h1⟩

/-! The invariant -/

theorem State.Inv.atBoundary {s : State} (h : s.Inv) : s.atBoundary.Inv := by
  unfold State.atBoundary
  split
  · exact h
  · obtain ⟨hmem, hnodup, hrange, hbanks, hreset⟩ := h
    refine ⟨hmem, addRequests_nodup _ _ _ hnodup, ?_, hbanks, hreset⟩
    rw [pendingInRange_iff] at *
    exact addRequests_inRange _ _ _ hrange

/-- The invariant does not speak of the counter of cycles. -/
theorem State.Inv.withCycles {s : State} (h : s.Inv) (n : Nat) : State.Inv { s with cycles := n } := h

/-- A request that is cleared leaves the others as they were. -/
theorem State.Inv.clear {s : State} (h : s.Inv) (k : Nat) : (s.setPending (s.pending.filter (· ≠ k))).Inv := by
  obtain ⟨hmem, hnodup, hrange, hbanks, hreset⟩ := h
  refine ⟨hmem, hnodup.filter _, ?_, hbanks, hreset⟩
  rw [pendingInRange_iff] at *
  exact fun j hj => hrange j (List.mem_filter.1 hj).1

/-- Whatever keeps memory canonical, the pending requests and the parameters keeps the invariant where it ends with legal
banks. -/
theorem State.Inv.of_kept {s t : State} (h : s.Inv) (kept : Kept s t) (hb : banksLegal t.cfg t.pg t.dt = true) : t.Inv := by
  obtain ⟨hmem, hnodup, hrange, -, hreset⟩ := h
  refine ⟨kept.wf hmem, kept.pending ▸ hnodup, ?_, hb, kept.cfg ▸ hreset⟩
  rw [pendingInRange_iff] at *
  rw [kept.pending, kept.cfg]
  exact hrange

theorem State.Inv.of_exec {s t : State} {i : Instr} (h : s.Inv) (ran : exec i s = .next t) : t.Inv :=
  h.of_kept (exec_keeps i s t ran) (exec_banksLegal i s t ran)

theorem State.Inv.of_acceptRequest {s t : State} {k : Nat} {src : IntSource} (h : s.Inv)
    (done : s.acceptRequest k src = .ok t) : t.Inv := by
  have kept := acceptRequest_keeps s k src t done
  obtain ⟨hpg, hdt⟩ := enterInterrupt_banks _ _ _ _ _ t done
  obtain ⟨-, -, -, hbanks, -⟩ := id h
  refine (h.clear k).of_kept kept ?_
  rw [kept.cfg, hpg, hdt]
  exact banksLegal_zero _ _ _ hbanks

/-- The reset sequence puts `RESET_STATE` in force, whose banks the invariant says are legal. -/
theorem State.Inv.of_resetSequence {s t : State} (h : s.Inv) (done : s.resetSequence = .ok t) : t.Inv := by
  obtain ⟨p, rfl⟩ := s.resetSequence_cases t done
  obtain ⟨hmem, -, -, -, hreset⟩ := h
  refine ⟨s.resetMemory_wf hmem, addRequests_nodup _ _ _ List.nodup_nil, ?_, hreset, hreset⟩
  rw [pendingInRange_iff]
  exact addRequests_inRange _ _ _ (by simp)

end Sys2Proof.Machine
end

section
/-! SUPPORT. The decoder reads back what the encoder writes (R71, R72): first the readers of operand bytes, then each family of
instructions whose codes follow one rule, then every well-formed instruction. -/

namespace Sys2Proof

/-! Operand bytes -/

theorem arg16_wordBytes (k : Word → Instr) (v : Word) (rest : List Byte) : arg16 k (wordBytes v ++ rest) = .ok (k v) rest := by
  simp [arg16, wordBytes]

theorem arg24_longBytes (k : Addr → Instr) (v : Addr) (rest : List Byte) : arg24 k (longBytes v ++ rest) = .ok (k v) rest := by
  simp [arg24, longBytes, wordBytes]

theorem arg16Imm_wordBytes (flag : Bool) (k : Word → Word → Instr) (v : Word) (rest : List Byte) :
    arg16Imm flag k (wordBytes v ++ rest) = argImm flag (k v) rest := by
  simp [arg16Imm, wordBytes]

theorem arg16ImmRel_wordBytes (flag : Bool) (k : Word → Word → Byte → Instr) (v : Word) (rest : List Byte) :
    arg16ImmRel flag k (wordBytes v ++ rest) = argImmRel flag (k v) rest := by
  simp [arg16ImmRel, wordBytes]

/-- An immediate of 8 bits is its low byte. -/
theorem wordOfByte_lowByte_of_immFits (v : Word) (h : immFits true v = true) : Machine.wordOfByte (Machine.lowByte v) = v := by
  have hv : v.toNat < 256 := by simpa [immFits] using h
  apply BitVec.eq_of_toNat_eq
  simp only [Machine.wordOfByte, Machine.lowByte, BitVec.toNat_setWidth, BitVec.extractLsb'_toNat, Nat.shiftRight_zero]
  omega

theorem argImm_immBytes (flag : Bool) (k : Word → Instr) (v : Word) (rest : List Byte) (h : immFits flag v = true) :
    argImm flag k (immBytes flag v ++ rest) = .ok (k v) rest := by
  cases flag with
  | true => simp [argImm, arg8, immBytes, wordOfByte_lowByte_of_immFits v h]
  | false => exact arg16_wordBytes k v rest

theorem argImmRel_immBytes (flag : Bool) (k : Word → Byte → Instr) (v : Word) (rr : Byte) (rest : List Byte)
    (h : immFits flag v = true) : argImmRel flag k (immBytes flag v ++ rr :: rest) = .ok (k v rr) rest := by
  cases flag with
  | true => simp [argImmRel, arg8Arg8, immBytes, wordOfByte_lowByte_of_immFits v h]
  | false => simp [argImmRel, immBytes]

/-! Operands, whose mode the code says -/

/-- What the tables hold for the code of an instruction with a memory operand of this mode. -/
def MemMode.reader (k : MemMode → Instr) : MemMode → Reader
  | .dir _ => arg8 fun dd => k (.dir dd)
  | .dirX _ => arg8 fun dd => k (.dirX dd)
  | .dirY _ => arg8 fun dd => k (.dirY dd)
  | .dirInd _ => arg8 fun dd => k (.dirInd dd)
  | .dirXInd _ => arg8 fun dd => k (.dirXInd dd)
  | .dirIndY _ => arg8 fun dd => k (.dirIndY dd)
  | .dirIndL _ => arg8 fun dd => k (.dirIndL dd)
  | .dirIndLY _ => arg8 fun dd => k (.dirIndLY dd)
  | .abs _ => arg16 fun mmll => k (.abs mmll)
  | .absX _ => arg16 fun mmll => k (.absX mmll)
  | .absY _ => arg16 fun mmll => k (.absY mmll)
  | .abl _ => arg24 fun hhmmll => k (.abl hhmmll)
  | .ablX _ => arg24 fun hhmmll => k (.ablX hhmmll)
  | .sr _ => arg8 fun nn => k (.sr nn)
  | .srIndY _ => arg8 fun nn => k (.srIndY nn)

theorem MemMode.reader_bytes (k : MemMode → Instr) (o : MemMode) (rest : List Byte) :
    o.reader k (o.bytes ++ rest) = .ok (k o) rest := by
  cases o with
  | abs mmll => exact arg16_wordBytes (fun v => k (.abs v)) mmll rest
  | absX mmll => exact arg16_wordBytes (fun v => k (.absX v)) mmll rest
  | absY mmll => exact arg16_wordBytes (fun v => k (.absY v)) mmll rest
  | abl hhmmll => exact arg24_longBytes (fun v => k (.abl v)) hhmmll rest
  | ablX hhmmll => exact arg24_longBytes (fun v => k (.ablX v)) hhmmll rest
  | _ => rfl

/-- What the tables hold for the code of an instruction with this kind of source operand. -/
def Operand.reader (flag : Bool) (k : Operand → Instr) : Operand → Reader
  | .imm _ => argImm flag fun v => k (.imm v)
  | .mem o => o.reader fun o => k (.mem o)

/-- The bytes of a source operand. -/
def Operand.bytes (flag : Bool) : Operand → List Byte
  | .imm v => immBytes flag v
  | .mem o => o.bytes

/-- The code offset of each kind of source operand in the accumulator group. -/
def Operand.accOffset : Operand → Byte
  | .imm _ => 0x09
  | .mem o => o.accOffset

theorem groupBytes_eq (m : Bool) (base : Byte) (o : Operand) :
    groupBytes m base o = (base + o.accOffset) :: o.bytes m := by
  cases o <;> rfl

theorem Operand.reader_bytes (flag : Bool) (allowed : MemMode → Bool) (k : Operand → Instr) (o : Operand) (rest : List Byte)
    (h : o.fits flag allowed = true) : o.reader flag k (o.bytes flag ++ rest) = .ok (k o) rest := by
  cases o with
  | imm v => exact argImm_immBytes flag (fun v => k (.imm v)) v rest h
  | mem o => exact o.reader_bytes (fun o => k (.mem o)) rest

/-! Families of instructions -/

/-- Decoding the encoding gives the instruction back and leaves the bytes after it. -/
def ReadsBack (m x : Bool) (i : Instr) : Prop := ∀ rest : List Byte, decode m x (encode m x i ++ rest) = .ok i rest

section

variable {m x : Bool}

/-- The accumulator instructions that read a source operand, each with its base code (R140). -/
def accGroup : List ((Acc → Operand → Instr) × Byte) :=
  [(.ora, 0x00), (.and, 0x20), (.eor, 0x40), (.adc, 0x60), (.lda, 0xA0), (.cmp, 0xC0), (.sbc, 0xE0)]

theorem decode_accGroup (p : (Acc → Operand → Instr) × Byte) (hp : p ∈ accGroup) (r : Acc) (o : Operand)
    (h : o.fits m MemMode.isAccMode = true) (tl : List Byte) :
    decode m x (r.lead ++ (p.2 + o.accOffset) :: tl) = o.reader m (p.1 r) tl := by
  simp only [accGroup, List.mem_cons, List.not_mem_nil, or_false] at hp
  rcases hp with rfl | rfl | rfl | rfl | rfl | rfl | rfl <;> cases r <;> cases o with
  | imm v =>
    simp only [Operand.accOffset, BitVec.reduceAdd]
    rfl
  | mem o =>
    cases o with
    | dirY dd => cases h
    | _ =>
      simp only [Operand.accOffset, MemMode.accOffset, BitVec.reduceAdd]
      rfl

theorem accGroup_readsBack (p : (Acc → Operand → Instr) × Byte) (hp : p ∈ accGroup) (r : Acc) (o : Operand)
    (h : o.fits m MemMode.isAccMode = true) (rest : List Byte) :
    decode m x (r.lead ++ groupBytes m p.2 o ++ rest) = .ok (p.1 r o) rest := by
  rw [groupBytes_eq, List.append_assoc, List.cons_append, decode_accGroup p hp r o h]
  exact o.reader_bytes m MemMode.isAccMode (p.1 r) rest h

/-- STA has the codes of the accumulator group without IMM (R126). -/
theorem sta_readsBack (r : Acc) (o : MemMode) (h : o.isAccMode = true) : ReadsBack m x (.sta r o) := by
  intro rest
  have hd : ∀ tl, decode m x (r.lead ++ (0x80 + o.accOffset) :: tl) = o.reader (.sta r) tl := by
    intro tl
    cases r <;> cases o with
    | dirY dd => cases h
    | _ =>
      simp only [MemMode.accOffset, BitVec.reduceAdd]
      rfl
  rw [encode, groupBytes, List.append_assoc, List.cons_append, hd]
  exact o.reader_bytes (.sta r) rest

/-- MPY and DIV, whose codes follow the accumulator group's rule behind the byte 89 (R190). -/
def mulDivGroup : List ((Operand → Instr) × Byte) := [(.mpy, 0x00), (.div, 0x20)]

theorem mulDivGroup_readsBack (p : (Operand → Instr) × Byte) (hp : p ∈ mulDivGroup) (o : Operand)
    (h : o.fits m MemMode.isAccMode = true) (rest : List Byte) :
    decode m x (0x89 :: groupBytes m p.2 o ++ rest) = .ok (p.1 o) rest := by
  have hd : ∀ tl, decode m x (0x89 :: (p.2 + o.accOffset) :: tl) = o.reader m p.1 tl := by
    intro tl
    simp only [mulDivGroup, List.mem_cons, List.not_mem_nil, or_false] at hp
    rcases hp with rfl | rfl <;> cases o with
    | imm v =>
      simp only [Operand.accOffset, BitVec.reduceAdd]
      rfl
    | mem o =>
      cases o with
      | dirY dd => cases h
      | _ =>
        simp only [Operand.accOffset, MemMode.accOffset, BitVec.reduceAdd]
        rfl
  rw [groupBytes_eq, List.cons_append, List.cons_append, hd]
  exact o.reader_bytes m MemMode.isAccMode p.1 rest h

/-- An instruction with a memory operand that has a code of its own for each mode: the modes and the codes. What the mode
leaves open is `α`: the instruction, or the immediates still to be read. -/
structure PickRow (α : Type) where
  instr : MemMode → α
  allowed : MemMode → Bool
  dir : Byte
  dirIndexed : Byte
  abs : Byte
  absIndexed : Byte

/-- The bytes of such an instruction before its immediates. -/
def PickRow.bytes {α : Type} (p : PickRow α) (o : MemMode) : List Byte := o.pick p.dir p.dirIndexed p.abs p.absIndexed

def ldxRow : PickRow Instr := ⟨fun o => .ldx (.mem o), MemMode.isYMode, 0xA6, 0xB6, 0xAE, 0xBE⟩
def ldyRow : PickRow Instr := ⟨fun o => .ldy (.mem o), MemMode.isXMode, 0xA4, 0xB4, 0xAC, 0xBC⟩
def cpxRow : PickRow Instr := ⟨fun o => .cpx (.mem o), MemMode.isPlainMode, 0xE4, 0xE4, 0xEC, 0xEC⟩
def cpyRow : PickRow Instr := ⟨fun o => .cpy (.mem o), MemMode.isPlainMode, 0xC4, 0xC4, 0xCC, 0xCC⟩
def stxRow : PickRow Instr := ⟨.stx, MemMode.isStxMode, 0x86, 0x96, 0x8E, 0x8E⟩
def styRow : PickRow Instr := ⟨.sty, MemMode.isStyMode, 0x84, 0x94, 0x8C, 0x8C⟩
def incRow : PickRow Instr := ⟨fun o => .inc (.mem o), MemMode.isXMode, 0xE6, 0xF6, 0xEE, 0xFE⟩
def decRow : PickRow Instr := ⟨fun o => .dec (.mem o), MemMode.isXMode, 0xC6, 0xD6, 0xCE, 0xDE⟩
def aslRow : PickRow Instr := ⟨fun o => .asl (.mem o), MemMode.isXMode, 0x06, 0x16, 0x0E, 0x1E⟩
def rolRow : PickRow Instr := ⟨fun o => .rol (.mem o), MemMode.isXMode, 0x26, 0x36, 0x2E, 0x3E⟩
def lsrRow : PickRow Instr := ⟨fun o => .lsr (.mem o), MemMode.isXMode, 0x46, 0x56, 0x4E, 0x5E⟩
def rorRow : PickRow Instr := ⟨fun o => .ror (.mem o), MemMode.isXMode, 0x66, 0x76, 0x6E, 0x7E⟩

/-- R124 to R128, R146, R147, R152, R153, R180. -/
def pickGroup : List (PickRow Instr) :=
  [ldxRow, ldyRow, cpxRow, cpyRow, stxRow, styRow, incRow, decRow, aslRow, rolRow, lsrRow, rorRow]

theorem pickGroup_readsBack (p : PickRow Instr) (hp : p ∈ pickGroup) (o : MemMode) (h : p.allowed o = true)
    (rest : List Byte) : decode m x (p.bytes o ++ rest) = .ok (p.instr o) rest := by
  have hd : decode m x (p.bytes o ++ rest) = o.reader p.instr (o.bytes ++ rest) := by
    simp only [pickGroup, List.mem_cons, List.not_mem_nil, or_false] at hp
    rcases hp with rfl | rfl | rfl | rfl | rfl | rfl | rfl | rfl | rfl | rfl | rfl | rfl <;> cases o <;> cases h <;> rfl
  rw [hd]
  exact o.reader_bytes p.instr rest

def ldmRow : PickRow (Word → Instr) := ⟨.ldm, MemMode.isXMode, 0x64, 0x74, 0x9C, 0x9E⟩
def sebRow : PickRow (Word → Instr) := ⟨.seb, MemMode.isPlainMode, 0x04, 0x04, 0x0C, 0x0C⟩
def clbRow : PickRow (Word → Instr) := ⟨.clb, MemMode.isPlainMode, 0x14, 0x14, 0x1C, 0x1C⟩

/-- LDM, SEB, CLB (R122, R299, R300). -/
def immGroup : List (PickRow (Word → Instr)) :=
  [ldmRow, sebRow, clbRow]

theorem immGroup_readsBack (p : PickRow (Word → Instr)) (hp : p ∈ immGroup) (o : MemMode) (imm : Word)
    (h : (p.allowed o && immFits m imm) = true) (rest : List Byte) :
    decode m x (p.bytes o ++ immBytes m imm ++ rest) = .ok (p.instr o imm) rest := by
  obtain ⟨ho, hi⟩ := Bool.and_eq_true _ _ ▸ h
  have hd : ∀ tl, decode m x (p.bytes o ++ tl) = argImm m (p.instr o) tl := by
    intro tl
    simp only [immGroup, List.mem_cons, List.not_mem_nil, or_false] at hp
    cases o with
    | abs mmll =>
      rw [← arg16Imm_wordBytes m (fun v => p.instr (.abs v))]
      rcases hp with rfl | rfl | rfl <;> rfl
    | absX mmll =>
      rw [← arg16Imm_wordBytes m (fun v => p.instr (.absX v))]
      rcases hp with rfl | rfl | rfl <;> cases ho
      rfl
    | _ => rcases hp with rfl | rfl | rfl <;> cases ho <;> rfl
  rw [List.append_assoc, hd]
  exact argImm_immBytes m (p.instr o) imm rest hi

def bbsRow : PickRow (Word → Byte → Instr) := ⟨.bbs, MemMode.isPlainMode, 0x24, 0x24, 0x2C, 0x2C⟩
def bbcRow : PickRow (Word → Byte → Instr) := ⟨.bbc, MemMode.isPlainMode, 0x34, 0x34, 0x3C, 0x3C⟩

/-- BBS, BBC (R210, R211). -/
def immRelGroup : List (PickRow (Word → Byte → Instr)) :=
  [bbsRow, bbcRow]

theorem immRelGroup_readsBack (p : PickRow (Word → Byte → Instr)) (hp : p ∈ immRelGroup) (o : MemMode) (imm : Word) (rr : Byte)
    (h : (p.allowed o && immFits m imm) = true) (rest : List Byte) :
    decode m x (p.bytes o ++ immBytes m imm ++ [rr] ++ rest) = .ok (p.instr o imm rr) rest := by
  obtain ⟨ho, hi⟩ := Bool.and_eq_true _ _ ▸ h
  have hd : ∀ tl, decode m x (p.bytes o ++ tl) = argImmRel m (p.instr o) tl := by
    intro tl
    simp only [immRelGroup, List.mem_cons, List.not_mem_nil, or_false] at hp
    cases o with
    | abs mmll =>
      rw [← arg16ImmRel_wordBytes m (fun v => p.instr (.abs v))]
      rcases hp with rfl | rfl <;> rfl
    | _ => rcases hp with rfl | rfl <;> cases ho <;> rfl
  rw [List.append_assoc, List.append_assoc, hd]
  exact argImmRel_immBytes m (p.instr o) imm rr rest hi

end

/-! Every instruction -/

/-- Decoding the encoding of a well-formed instruction gives it back, whatever bytes follow. -/
theorem decode_encode (m x : Bool) (i : Instr) (h : i.wf m x = true) : ReadsBack m x i := by
  intro rest
  cases i with
  | ora r o => exact accGroup_readsBack (.ora, 0x00) (by simp [accGroup]) r o h rest
  | and r o => exact accGroup_readsBack (.and, 0x20) (by simp [accGroup]) r o h rest
  | eor r o => exact accGroup_readsBack (.eor, 0x40) (by simp [accGroup]) r o h rest
  | adc r o => exact accGroup_readsBack (.adc, 0x60) (by simp [accGroup]) r o h rest
  | lda r o => exact accGroup_readsBack (.lda, 0xA0) (by simp [accGroup]) r o h rest
  | cmp r o => exact accGroup_readsBack (.cmp, 0xC0) (by simp [accGroup]) r o h rest
  | sbc r o => exact accGroup_readsBack (.sbc, 0xE0) (by simp [accGroup]) r o h rest
  | sta r o => exact sta_readsBack r o h rest
  | mpy o => exact mulDivGroup_readsBack (.mpy, 0x00) (by simp [mulDivGroup]) o h rest
  | div o => exact mulDivGroup_readsBack (.div, 0x20) (by simp [mulDivGroup]) o h rest
  | ldx o =>
    cases o with
    | imm v => exact argImm_immBytes x (fun v => .ldx (.imm v)) v rest h
    | mem o => exact pickGroup_readsBack ldxRow (by simp [pickGroup]) o h rest
  | ldy o =>
    cases o with
    | imm v => exact argImm_immBytes x (fun v => .ldy (.imm v)) v rest h
    | mem o => exact pickGroup_readsBack ldyRow (by simp [pickGroup]) o h rest
  | cpx o =>
    cases o with
    | imm v => exact argImm_immBytes x (fun v => .cpx (.imm v)) v rest h
    | mem o => exact pickGroup_readsBack cpxRow (by simp [pickGroup]) o h rest
  | cpy o =>
    cases o with
    | imm v => exact argImm_immBytes x (fun v => .cpy (.imm v)) v rest h
    | mem o => exact pickGroup_readsBack cpyRow (by simp [pickGroup]) o h rest
  | stx o => exact pickGroup_readsBack stxRow (by simp [pickGroup]) o h rest
  | sty o => exact pickGroup_readsBack styRow (by simp [pickGroup]) o h rest
  | inc d =>
    cases d with
    | acc r => cases r <;> rfl
    | mem o => exact pickGroup_readsBack incRow (by simp [pickGroup]) o h rest
  | dec d =>
    cases d with
    | acc r => cases r <;> rfl
    | mem o => exact pickGroup_readsBack decRow (by simp [pickGroup]) o h rest
  | asl d =>
    cases d with
    | acc r => cases r <;> rfl
    | mem o => exact pickGroup_readsBack aslRow (by simp [pickGroup]) o h rest
  | rol d =>
    cases d with
    | acc r => cases r <;> rfl
    | mem o => exact pickGroup_readsBack rolRow (by simp [pickGroup]) o h rest
  | lsr d =>
    cases d with
    | acc r => cases r <;> rfl
    | mem o => exact pickGroup_readsBack lsrRow (by simp [pickGroup]) o h rest
  | ror d =>
    cases d with
    | acc r => cases r <;> rfl
    | mem o => exact pickGroup_readsBack rorRow (by simp [pickGroup]) o h rest
  | ldm o imm => exact immGroup_readsBack ldmRow (by simp [immGroup]) o imm h rest
  | seb o imm => exact immGroup_readsBack sebRow (by simp [immGroup]) o imm h rest
  | clb o imm => exact immGroup_readsBack clbRow (by simp [immGroup]) o imm h rest
  | bbs o imm rr => exact immRelGroup_readsBack bbsRow (by simp [immRelGroup]) o imm rr h rest
  | bbc o imm rr => exact immRelGroup_readsBack bbcRow (by simp [immRelGroup]) o imm rr h rest
  | rla imm => exact argImm_immBytes m .rla imm rest h
  | pea imm => exact arg16_wordBytes .pea imm rest
  | per imm => exact arg16_wordBytes .per imm rest
  | bra d =>
    cases d with
    | short rr => rfl
    | long rr => exact arg16_wordBytes (fun v => .bra (.long v)) rr rest
  | jmp t =>
    cases t with
    | abs mmll => exact arg16_wordBytes (fun v => .jmp (.abs v)) mmll rest
    | abl hhmmll => exact arg24_longBytes (fun v => .jmp (.abl v)) hhmmll rest
    | absInd mmll => exact arg16_wordBytes (fun v => .jmp (.absInd v)) mmll rest
    | absIndL mmll => exact arg16_wordBytes (fun v => .jmp (.absIndL v)) mmll rest
    | absXInd mmll => exact arg16_wordBytes (fun v => .jmp (.absXInd v)) mmll rest
  | jsr t =>
    cases t with
    | abs mmll => exact arg16_wordBytes (fun v => .jsr (.abs v)) mmll rest
    | abl hhmmll => exact arg24_longBytes (fun v => .jsr (.abl v)) hhmmll rest
    | absXInd mmll => exact arg16_wordBytes (fun v => .jsr (.absXInd v)) mmll rest
  | _ => rfl

/-! The length of an encoding (R70, R71) -/

/-- The encoding of a well-formed instruction has as many bytes as the length rule gives. -/
theorem encode_length (i : Instr) : Laws.EncodedLength.Statement i := by
  cases i with
  | lda r o => exact Laws.EncodedLength.lda r o
  | adc r o => exact Laws.EncodedLength.adc r o
  | sbc r o => exact Laws.EncodedLength.sbc r o
  | cmp r o => exact Laws.EncodedLength.cmp r o
  | and r o => exact Laws.EncodedLength.and r o
  | ora r o => exact Laws.EncodedLength.ora r o
  | eor r o => exact Laws.EncodedLength.eor r o
  | sta r o => exact Laws.EncodedLength.sta r o
  | mpy o => exact Laws.EncodedLength.mpy o
  | div o => exact Laws.EncodedLength.div o
  | ldm o imm => exact Laws.EncodedLength.ldm o imm
  | ldx o => exact Laws.EncodedLength.ldx o
  | ldy o => exact Laws.EncodedLength.ldy o
  | stx o => exact Laws.EncodedLength.stx o
  | sty o => exact Laws.EncodedLength.sty o
  | cpx o => exact Laws.EncodedLength.cpx o
  | cpy o => exact Laws.EncodedLength.cpy o
  | inc d => exact Laws.EncodedLength.inc d
  | dec d => exact Laws.EncodedLength.dec d
  | asl d => exact Laws.EncodedLength.asl d
  | lsr d => exact Laws.EncodedLength.lsr d
  | rol d => exact Laws.EncodedLength.rol d
  | ror d => exact Laws.EncodedLength.ror d
  | rla imm => exact Laws.EncodedLength.rla imm
  | bra d => exact Laws.EncodedLength.bra d
  | bbs o imm rr => exact Laws.EncodedLength.bbs o imm rr
  | bbc o imm rr => exact Laws.EncodedLength.bbc o imm rr
  | seb o imm => exact Laws.EncodedLength.seb o imm
  | clb o imm => exact Laws.EncodedLength.clb o imm
  | jmp t => exact Laws.EncodedLength.jmp t
  | jsr t => exact Laws.EncodedLength.jsr t
  | _ => exact fun _ _ _ => rfl

theorem MemMode.length_le (o : MemMode) : o.length ≤ 3 := by
  cases o <;> simp [MemMode.length]

theorem MemMode.length_le_of_isXMode (o : MemMode) (h : o.isXMode = true) : o.length ≤ 2 := by
  cases o with
  | dir | dirX | abs | absX => simp [MemMode.length]
  | _ => cases h

theorem Acc.codeBytes_le (r : Acc) : r.codeBytes ≤ 2 := by
  cases r <;> simp [Acc.codeBytes]

theorem bytesOf_le (w : Width) : Machine.bytesOf w ≤ 2 := by
  cases w <;> simp [Machine.bytesOf]

theorem Operand.length_le (w : Width) (o : Operand) : o.length w ≤ 3 := by
  cases o with
  | imm v => exact (bytesOf_le w).trans (by decide)
  | mem o => exact o.length_le

theorem Dest.length_le (d : Dest) : d.length ≤ 4 := by
  cases d with
  | acc r => exact r.codeBytes_le.trans (by decide)
  | mem o => exact Nat.add_le_add_left o.length_le 1

/-- No well-formed instruction is longer than 6 bytes (R70): BBS and BBC, the longest, have a plain mode. -/
theorem Instr.length_le (m x : Bool) (i : Instr) (h : i.wf m x = true) (mw xw : Width) : i.length mw xw ≤ maxLength := by
  have hm := bytesOf_le mw
  unfold maxLength
  cases i with
  | lda r o | adc r o | sbc r o | cmp r o | and r o | ora r o | eor r o =>
    have hr := r.codeBytes_le
    have ho := o.length_le mw
    simp only [Instr.length]
    omega
  | sta r o =>
    have hr := r.codeBytes_le
    have ho := o.length_le
    simp only [Instr.length]
    omega
  | mpy o | div o =>
    have ho := o.length_le mw
    simp only [Instr.length]
    omega
  | ldx o | ldy o | cpx o | cpy o =>
    have ho := o.length_le xw
    simp only [Instr.length]
    omega
  | stx o | sty o | ldm o | seb o | clb o =>
    have ho := o.length_le
    simp only [Instr.length]
    omega
  | bbs o | bbc o =>
    obtain ⟨hp, -⟩ := Bool.and_eq_true _ _ ▸ h
    have ho := o.length_le_of_isXMode (Laws.isPlainMode_isXMode o hp)
    simp only [Instr.length]
    omega
  | inc d | dec d | asl d | lsr d | rol d | ror d => exact d.length_le.trans (by decide)
  | rla imm =>
    simp only [Instr.length]
    omega
  | bra d => cases d <;> simp [Instr.length]
  | jmp t => cases t <;> simp [Instr.length]
  | jsr t => cases t <;> simp [Instr.length]
  | _ => simp [Instr.length]

theorem encode_length_le (m x : Bool) (i : Instr) (h : i.wf m x = true) : (encode m x i).length ≤ maxLength :=
  (encode_length i m x h).trans_le (i.length_le m x h _ _)

end Sys2Proof
end

section
/-! SUPPORT. Which instruction a step runs: the fetch reads the bytes at PG:PC and the decoder says what they are (R58, R72). -/

namespace Sys2Proof.Machine

/-- Nothing but the next instruction happens at a boundary where the environment presents nothing, no request is accepted and
the CPU runs. -/
theorem State.boundary_of_quiet (s : State) (inputs : s.inputs = []) (accepted : s.accepted = none) (run : s.run = .running) :
    s.boundary = .instruction s := by
  simp [State.boundary, State.resetNow, State.atBoundary, inputs, accepted, run]

theorem step_of_boundary_fetch (s : State) (i : Instr) (boundary : s.boundary = .instruction s) (fetched : s.fetch = .instr i) :
    step s = Result.counting (minCycles i s) (exec i s) := by
  simp [step, boundary, fetched]

theorem State.fetch_of_decode (s : State) (i : Instr) (rest : List Byte)
    (h : decode s.ps.m s.ps.x (s.fetchFrom maxLength s.pcAddr).1 = .ok i rest) : s.fetch = .instr i := by
  simp [State.fetch, h]

/-- The fetch begins with the bytes that lie at the address, as far as it reaches. -/
theorem State.fetchFrom_begins (s : State) (bytes : List Byte) (n : Nat) (a : Addr) (hn : bytes.length ≤ n)
    (h : ∀ (k : Nat) (v : Byte), bytes[k]? = some v → s.readByte (a + BitVec.ofNat 24 k) = .ok v) :
    ∃ rest, (s.fetchFrom n a).1 = bytes ++ rest := by
  induction bytes generalizing n a with
  | nil => exact ⟨_, rfl⟩
  | cons v tl ih =>
    obtain ⟨n, rfl⟩ := Nat.exists_eq_succ_of_ne_zero (Nat.pos_iff_ne_zero.1 (Nat.zero_lt_of_lt hn))
    have hv : s.readByte a = .ok v := by simpa using h 0 v rfl
    obtain ⟨rest, hrest⟩ := ih n (a + 1) (Nat.le_of_succ_le_succ hn) (by
      intro k u hu
      have e : a + 1 + BitVec.ofNat 24 k = a + BitVec.ofNat 24 (k + 1) := by
        rw [Nat.add_comm k 1, BitVec.ofNat_add, BitVec.add_assoc]
        rfl
      rw [e]
      exact h (k + 1) u hu)
    exact ⟨rest, by simp only [State.fetchFrom, hv, hrest, List.cons_append]⟩

end Sys2Proof.Machine
end

section
/-! SUPPORT. STA with its effective address known, and the read-modify-write of memory with the spec's six modifications (R46,
R126, R152, R180). -/

namespace Sys2Proof.Machine

/-- STA where the effective address is known. -/
theorem exec_sta (s : State) (r : Acc) (o : MemMode) (a : Addr) (ea : s.ea o = .ok a) :
    exec (.sta r o) s = complete (s.storeData (s.lengthOf (.sta r o)) s.mw a (s.acc r) >>= fun t =>
      pure (t.advance (s.lengthOf (.sta r o)))) := by
  simp only [exec, execSta, storeAt, ea, res_ok_bind]
  rfl

/-! Reading and writing back -/

/-- What can be stored can be read: it is RAM (R56). -/
theorem State.canRead_of_canStore (s : State) (len : Nat) (w : Width) (a : Addr) (h : s.canStore len w a = true) :
    s.canRead (bytesOf w) a = true := by
  have byte : ∀ b, s.canStoreByte len b = true → s.canReadByte b = true := by
    intro b hb
    simp only [State.canStoreByte, Bool.and_eq_true] at hb
    simp [State.canReadByte, hb.1]
  cases w with
  | w8 => simp only [State.canRead, bytesOf, byte a h, Bool.and_true]
  | w16 =>
    obtain ⟨h1, h2⟩ := Bool.and_eq_true _ _ ▸ h
    simp only [State.canRead, bytesOf, byte a h1, byte (a + 1) h2, Bool.and_true]

/-- A modification of the spec (R152, R153, R181 to R184) as the model computes it: the result by `f`, PS by `q`, both from the
operand. -/
structure Modifies (s : State) (p : Modification) (f : Word → Word) (q : Word → PS) : Prop where
  exec : ∀ d, exec (p.instr d) s = readModifyWrite f q d s
  length : ∀ d, s.lengthOf (p.instr d) = d.length
  bound : ∀ v, (f v).toNat < 2 ^ bitsOf s.mw
  result : ∀ v : Word, v.toNat < 2 ^ bitsOf s.mw → (f v).toNat = p.result v.toNat
  ps : ∀ v : Word, v.toNat < 2 ^ bitsOf s.mw → q v = { s.ps.withNZ s.mw (f v) with c := (p.carry v.toNat).getD s.ps.c }

theorem narrow_lt (w : Width) (n : Nat) : (narrow w n).toNat < 2 ^ bitsOf w := by
  rw [narrow_toNat]
  exact Nat.mod_lt _ (Nat.two_pow_pos _)

theorem narrowInt_lt (w : Width) (d : Int) : (narrowInt w d).toNat < 2 ^ bitsOf w := by
  have e := narrowInt_toNat w d
  cases w <;> simp only [bitsOf] at * <;> omega

/-- INC and DEC: C is left alone. -/
theorem modifies_count (s : State) (p : Modification) (f : Word → Word)
    (exec : ∀ d, Machine.exec (p.instr d) s = readModifyWrite f (fun v => s.ps.withNZ s.mw (f v)) d s)
    (length : ∀ d, s.lengthOf (p.instr d) = d.length) (bound : ∀ v, (f v).toNat < 2 ^ bitsOf s.mw)
    (result : ∀ v : Word, v.toNat < 2 ^ bitsOf s.mw → (f v).toNat = p.result v.toNat) (carry : ∀ n, p.carry n = none) :
    ∃ f q, Modifies s p f q :=
  ⟨f, _, exec, length, bound, result, fun v _ => by rw [carry]; rfl⟩

/-- The shifts: C is the bit shifted out. -/
theorem modifies_shift (s : State) (p : Modification) (k : Shift) (exec : ∀ d, Machine.exec (p.instr d) s = shift k d s)
    (length : ∀ d, s.lengthOf (p.instr d) = d.length)
    (result : ∀ v : Word, v.toNat < 2 ^ bitsOf s.mw → (k.result s.mw v s.ps.c).toNat = p.result v.toNat)
    (carry : ∀ v : Word, v.toNat < 2 ^ bitsOf s.mw → p.carry v.toNat = some (k.carry s.mw v)) :
    ∃ f q, Modifies s p f q :=
  ⟨_, _, exec, length, fun v => by cases k <;> exact narrow_lt _ _, result, fun v hv => by rw [carry v hv]; rfl⟩

theorem topBit_of_lt (w : Width) (v : Word) (h : v.toNat < 2 ^ bitsOf w) :
    topBit w v = decide (2 ^ (bitsOf w - 1) ≤ v.toNat) := by
  rw [topBit_eq, lowBits_of_lt w v h]

theorem getLsbD_zero_eq (v : Word) : v.getLsbD 0 = decide (v.toNat % 2 = 1) := by
  simp [BitVec.getLsbD]

theorem lsr_result (w : Width) (v : Word) (c : Bool) (h : v.toNat < 2 ^ bitsOf w) :
    (Shift.lsr.result w v c).toNat = v.toNat / 2 := by
  rw [Shift.result, narrow_toNat]
  exact Nat.mod_eq_of_lt ((Nat.div_le_self _ _).trans_lt h)

theorem rol_result (w : Width) (v : Word) (c : Bool) : (Shift.rol.result w v c).toNat = 2 * v.toNat % 2 ^ bitsOf w + c.toNat := by
  have hc := c.toNat_le
  rw [Shift.result, narrow_toNat]
  cases w <;> simp only [bitsOf] <;> omega

theorem ror_result (w : Width) (v : Word) (c : Bool) (h : v.toNat < 2 ^ bitsOf w) :
    (Shift.ror.result w v c).toNat = v.toNat / 2 + 2 ^ (bitsOf w - 1) * c.toNat := by
  have hc := c.toNat_le
  rw [Shift.result, narrow_toNat]
  cases w <;> simp only [bitsOf] at * <;> omega

theorem modifications_modify (s : State) (p : Modification) (hp : p ∈ modifications s.mw s.ps.c) :
    ∃ f q, Modifies s p f q := by
  simp only [modifications, List.mem_cons, List.not_mem_nil, or_false] at hp
  rcases hp with rfl | rfl | rfl | rfl | rfl | rfl
  · exact modifies_count s _ (fun v => narrow s.mw (v.toNat + 1)) (fun _ => rfl) (fun _ => rfl) (fun _ => narrow_lt _ _)
      (fun _ _ => narrow_toNat _ _) fun _ => rfl
  · exact modifies_count s _ (fun v => narrowInt s.mw ((v.toNat : Int) - 1)) (fun _ => rfl) (fun _ => rfl)
      (fun _ => narrowInt_lt _ _) (fun v hv => narrowInt_pred_toNat _ v hv) fun _ => rfl
  · exact modifies_shift s _ .asl (fun _ => rfl) (fun _ => rfl) (fun _ _ => narrow_toNat _ _)
      fun v hv => congrArg some (topBit_of_lt _ v hv).symm
  · exact modifies_shift s _ .lsr (fun _ => rfl) (fun _ => rfl) (fun v hv => lsr_result _ v _ hv)
      fun v _ => congrArg some (getLsbD_zero_eq v).symm
  · exact modifies_shift s _ .rol (fun _ => rfl) (fun _ => rfl) (fun v _ => rol_result _ v _)
      fun v hv => congrArg some (topBit_of_lt _ v hv).symm
  · exact modifies_shift s _ .ror (fun _ => rfl) (fun _ => rfl) (fun v hv => ror_result _ v _ hv)
      fun v _ => congrArg some (getLsbD_zero_eq v).symm

/-- A read-modify-write of memory where the datum can be stored: memory and PS are what the operand makes of them, PG:PC is the
address after the instruction. -/
theorem readModifyWrite_mem (f : Word → Word) (q : Word → PS) (o : MemMode) (s : State) (a : Addr) (ea : s.ea o = .ok a)
    (wf : s.mem.wf = true) (store : s.canStore (Dest.mem o).length s.mw a = true)
    (go : s.mayGoTo (s.nextPC (Dest.mem o).length) s.dt = true) :
    ∃ (v : Word) (m : Memory), v.toNat < 2 ^ bitsOf s.mw ∧ v.toNat = s.number (bytesOf s.mw) a ∧
      stores s.mw a (f v).toNat s (s.setMem m) ∧
      readModifyWrite f q (.mem o) s = .next (((s.setMem m).setPs (q v)).advance (Dest.mem o).length) := by
  obtain ⟨v, hv, value⟩ := s.readData_ok s.mw a (s.canRead_of_canStore _ _ _ store)
  obtain ⟨m, hm, -, stored⟩ := s.storeData_ok _ s.mw a (f v) store wf
  refine ⟨v, m, s.readData_lt _ a v hv, value, stored, ?_⟩
  simp only [readModifyWrite, ea, hv, hm, res_ok_bind, res_pure]
  exact complete_ok _ go

end Sys2Proof.Machine
end

section
/-! SUPPORT. What an access that cannot be made refuses: pointers, operands, stores, sequences of pushes and of pulls (R56, R58). -/

namespace Sys2Proof.Machine

/-! Addresses from their numbers -/

theorem State.eq_directAddr (s : State) (dd : Byte) (p : Addr) (h : p.toNat = s.dpr.toNat + dd.toNat) : p = s.directAddr dd := by
  have h1 := s.dpr.isLt
  have h2 := dd.isLt
  apply BitVec.eq_of_toNat_eq
  simp only [State.directAddr, addrOfWord, addrOfByte, BitVec.toNat_add, BitVec.toNat_setWidth]
  omega

theorem State.eq_directAddr_xi (s : State) (dd : Byte) (p : Addr) (h : p.toNat = s.dpr.toNat + dd.toNat + lowBits s.xw s.x) :
    p = s.directAddr dd + addrOfWord s.xi := by
  have h1 := s.dpr.isLt
  have h2 := dd.isLt
  have h3 := s.xi.isLt
  rw [← s.xi_toNat] at h
  apply BitVec.eq_of_toNat_eq
  simp only [State.directAddr, addrOfWord, addrOfByte, BitVec.toNat_add, BitVec.toNat_setWidth]
  omega

/-- An address in a bank whose offset is a sum that does not leave the bank. -/
theorem eq_addrOf_add (bank : Byte) (u v : Word) (p : Addr) (h : p.toNat = 65536 * bank.toNat + u.toNat + v.toNat)
    (hl : u.toNat + v.toNat + 1 ≤ 0xFFFF) : p = addrOf bank (u + v) := by
  apply BitVec.eq_of_toNat_eq
  rw [addrOf_toNat, BitVec.toNat_add]
  omega

theorem eq_addrOf_zero (v : Word) (p : Addr) (h : p.toNat = v.toNat) : p = addrOf 0 v := by
  apply BitVec.eq_of_toNat_eq
  rw [addrOf_toNat, h]
  rfl

theorem wordOfByte_toNat (v : Byte) : (wordOfByte v).toNat = v.toNat := by
  have := v.isLt
  simp only [wordOfByte, BitVec.toNat_setWidth]
  omega

/-! Pointers -/

section

variable {s : State} {e : Refusal}

theorem ea_dirInd_refused {dd : Byte} (h : s.readRefused 2 (s.directAddr dd) e) : s.ea (.dirInd dd) = .error e := by
  simp [State.ea, s.readWord_refused _ e h]

theorem ea_dirIndY_refused {dd : Byte} (h : s.readRefused 2 (s.directAddr dd) e) : s.ea (.dirIndY dd) = .error e := by
  simp [State.ea, s.readWord_refused _ e h]

theorem ea_dirXInd_refused {dd : Byte} (h : s.readRefused 2 (s.directAddr dd + addrOfWord s.xi) e) :
    s.ea (.dirXInd dd) = .error e := by
  simp [State.ea, s.readWord_refused _ e h]

theorem ea_dirIndL_refused {dd : Byte} (h : s.readRefused 3 (s.directAddr dd) e) : s.ea (.dirIndL dd) = .error e := by
  simp [State.ea, s.readLong_refused _ e h]

theorem ea_dirIndLY_refused {dd : Byte} (h : s.readRefused 3 (s.directAddr dd) e) : s.ea (.dirIndLY dd) = .error e := by
  simp [State.ea, s.readLong_refused _ e h]

theorem ea_srIndY_refused {nn : Byte} (hl : s.sp.toNat + nn.toNat + 1 ≤ 0xFFFF)
    (h : s.readRefused 2 (addrOf 0 (s.sp + wordOfByte nn)) e) : s.ea (.srIndY nn) = .error e := by
  simp only [State.ea, if_pos hl, s.readWord_refused _ e h, res_error_bind]

theorem indexedTarget_refused {mmll : Word} (hl : mmll.toNat + s.xi.toNat + 1 ≤ 0xFFFF)
    (h : s.readRefused 2 (addrOf s.pg (mmll + s.xi)) e) : s.indexedTarget mmll = .error e := by
  rw [State.indexedTarget, if_pos hl, s.readWord_refused _ e h]

/-! Operands and stores -/

/-- A sequence whose start is refused. -/
theorem complete_bind_refused {α : Type} {x : Res α} {f : α → Res State} (h : x = .error e) :
    complete (x >>= f) = .refused e := by
  rw [h]
  rfl

theorem operand_refused {w : Width} {o : MemMode} {p : Addr}
    (h : s.ea o = .error e ∨ s.ea o = .ok p ∧ s.readRefused (bytesOf w) p e) : s.operand w (.mem o) = .error e := by
  rcases h with ea | ⟨ea, read⟩
  · simp [State.operand, ea]
  · simp [State.operand, ea, s.readData_refused w p e read]

/-- An instruction that keeps the effective address of the operand it reads. -/
theorem readAt_refused {w : Width} {o : MemMode} (h : s.operand w (.mem o) = .error e) (f : Addr → Word → Res State) :
    complete (s.ea o >>= fun a => s.readData w a >>= f a) = .refused e := by
  simp only [State.operand] at h
  cases ea : s.ea o with
  | error e' =>
    rw [ea, res_error_bind] at h
    obtain rfl := Except.error.inj h
    rfl
  | ok a =>
    rw [ea, res_ok_bind] at h
    rw [res_ok_bind]
    exact complete_bind_refused h

theorem storeAt_refused {len : Nat} {w : Width} {o : MemMode} {p : Addr}
    (h : s.ea o = .error e ∨ s.ea o = .ok p ∧ s.storeRefused len (bytesOf w) p e) (v : Word) (f : State → Res State) :
    complete (s.ea o >>= fun a => s.storeData len w a v >>= f) = .refused e := by
  rcases h with ea | ⟨ea, store⟩
  · exact complete_bind_refused ea
  · rw [ea, res_ok_bind]
    exact complete_bind_refused (s.storeData_refused len w p v e store)

theorem writeBack_refused {len : Nat} {w : Width} {o : MemMode} {p : Addr} (ea : s.ea o = .ok p)
    (read : s.canRead (bytesOf w) p = true) (store : s.storeRefused len (bytesOf w) p e) (g : Word → Word)
    (f : Word → State → Res State) :
    complete (s.ea o >>= fun a => s.readData w a >>= fun v => s.storeData len w a (g v) >>= f v) = .refused e := by
  obtain ⟨v, hv, -⟩ := s.readData_ok w p read
  rw [ea, res_ok_bind, hv, res_ok_bind]
  exact complete_bind_refused (s.storeData_refused len w p (g v) e store)

/-! Pushes -/

theorem pushed_regBytes (bytes : List Byte) (r : Reg) : (s.pushed bytes).regBytes r = s.regBytes r := by
  cases r <;> rfl

theorem pushedBytes_length (w : Width) (v : Word) : (pushedBytes w v).length = bytesOf w := by
  cases w <;> rfl

/-- A register is pushed with as many bytes as it is pulled with. -/
theorem regBytes_length (r : Reg) : (s.regBytes r).length = pullSize s.mw s.xw r := by
  cases r with
  | a | b | x | y => exact pushedBytes_length _ _
  | dpr | dt | pg | ps => rfl

/-- The bytes that PSH pushes for the bits of a list (R253). -/
def State.listedBytes (s : State) (nn : Byte) : List (Nat × Reg) → List Byte
  | [] => []
  | (bit, r) :: rest => (if nn.getLsbD bit then s.regBytes r else []) ++ s.listedBytes nn rest

theorem pushed_listedBytes (bytes : List Byte) (nn : Byte) (l : List (Nat × Reg)) :
    (s.pushed bytes).listedBytes nn l = s.listedBytes nn l := by
  induction l with
  | nil => rfl
  | cons c rest ih => simp only [State.listedBytes, ih, pushed_regBytes]

theorem listedBytes_pshOrder (nn : Byte) : s.listedBytes nn pshOrder = s.selectedBytes nn := by
  simp only [State.listedBytes, pshOrder, State.selectedBytes, State.regBytes, List.append_nil, List.append_assoc]

theorem pushSelected_refused (s : State) (nn : Byte) (l : List (Nat × Reg))
    (h : s.pushRefused 2 (s.listedBytes nn l).length e) : s.pushSelected nn l = .error e := by
  induction l generalizing s with
  | nil => cases h
  | cons c rest ih =>
    simp only [State.listedBytes, List.length_append] at h
    rw [State.pushSelected]
    split
    · next hbit =>
      rw [if_pos hbit] at h
      rcases s.pushRefused_append 2 _ _ e h with h | ⟨can, h⟩
      · rw [s.pushReg_refused 2 c.2 e h, res_error_bind]
      · rw [s.pushReg_ok 2 c.2 can, res_ok_bind]
        refine ih _ ?_
        rw [pushed_listedBytes]
        exact h _ rfl
    · next hbit =>
      rw [if_neg hbit, List.length_nil, Nat.zero_add] at h
      exact ih s h

theorem enterInterrupt_push_refused (s : State) {len : Nat} (ret vector : Addr) (level : Option (BitVec 3))
    (h : s.pushRefused len 5 e) : s.enterInterrupt (some len) ret vector level = .error e := by
  unfold State.enterInterrupt
  rcases s.pushRefused_append len 1 4 e h with h | ⟨can, h⟩
  · rw [s.push8_refused len _ e h, res_error_bind]
  · rw [s.push8_ok len _ can, res_ok_bind]
    rcases State.pushRefused_append _ len 2 2 e (h [bankOf ret] rfl) with h | ⟨can, h⟩
    · rw [State.push16_refused _ len _ e h, res_error_bind]
    · rw [State.push16_ok _ len _ can, res_ok_bind]
      rw [State.push16_refused _ len _ e (h _ rfl), res_error_bind]

theorem pushed_readRefused (bytes : List Byte) (n : Nat) (a : Addr) :
    (s.pushed bytes).readRefused n a e ↔ s.readRefused n a e := Iff.rfl

/-- The vector is read after the five pushes, which change no `MEM_MAP` (R337). -/
theorem enterInterrupt_vector_refused (s : State) {len : Nat} (ret vector : Addr) (level : Option (BitVec 3))
    (can : s.canPush len 5 s.sp = true) (h : s.readRefused 2 vector e) :
    s.enterInterrupt (some len) ret vector level = .error e := by
  have first := can
  rw [State.canPush_append s len 1 4, Bool.and_eq_true] at first
  have next := first.2
  rw [State.canPush_append s len 2 2, Bool.and_eq_true] at next
  unfold State.enterInterrupt
  rw [s.push8_ok len _ first.1, res_ok_bind]
  rw [State.push16_ok _ len _ (by rw [State.pushed_canPush, State.pushed_sp]; exact next.1), res_ok_bind]
  rw [State.push16_ok _ len _ (by
    rw [State.pushed_canPush, State.pushed_canPush, State.pushed_sp, State.pushed_sp]; exact next.2), res_ok_bind]
  rw [State.pushed_append, State.pushed_append, State.readWord_refused _ vector e ((pushed_readRefused _ 2 vector).2 h),
    res_error_bind]

/-! Pulls -/

/-- A pull changes S and the register, neither of which MEM_MAP depends on. -/
theorem pullReg_ok (s : State) (mw xw : Width) (r : Reg) (h : s.canPull (pullSize mw xw r) s.sp = true) :
    ∃ t, s.pullReg mw xw r = .ok t ∧ t.cfg = s.cfg ∧ t.sp = s.sp + BitVec.ofNat 16 (pullSize mw xw r) := by
  cases r with
  | a | b | x | y =>
    obtain ⟨v, hv, -⟩ := s.pullData_ok _ h
    simp only [State.pullReg, hv, res_ok_bind, res_pure]
    exact ⟨_, rfl, rfl, rfl⟩
  | dpr | ps =>
    simp only [State.pullReg, s.pull16_ok h, res_ok_bind, res_pure]
    exact ⟨_, rfl, rfl, rfl⟩
  | dt | pg =>
    simp only [State.pullReg, s.pull8_raised h, res_ok_bind, res_pure]
    exact ⟨_, rfl, rfl, rfl⟩

/-- Whether pulls are refused depends on S and the parameters alone. -/
theorem State.pullRefused_congr {s t : State} (cfg : t.cfg = s.cfg) (sp : t.sp = s.sp) (n : Nat) :
    t.pullRefused n e ↔ s.pullRefused n e := by
  have hr : t.readRefusal = s.readRefusal := by
    funext a
    simp only [State.readRefusal, State.kindAt, cfg]
  rw [State.pullRefused, State.pullRefused, hr, sp]

/-- Pulling a register and then more. -/
theorem pullReg_then_refused (s : State) (mw xw : Width) (r : Reg) (k : Nat) (f : State → Res State)
    (h : s.pullRefused (pullSize mw xw r + k) e) (rest : ∀ t : State, t.pullRefused k e → f t = .error e) :
    (s.pullReg mw xw r >>= f) = .error e := by
  rcases s.pullRefused_append _ k e h with h | ⟨can, h⟩
  · rw [s.pullReg_refused mw xw r e h, res_error_bind]
  · obtain ⟨t, ht, cfg, sp⟩ := pullReg_ok s mw xw r can
    rw [ht, res_ok_bind]
    exact rest t ((State.pullRefused_congr (s := s.raised _) cfg sp k).2 h)

/-- Pulling a word and then more. -/
theorem pull16_then_refused (s : State) (k : Nat) (f : Word × State → Res State) (h : s.pullRefused (2 + k) e)
    (rest : ∀ p : Word × State, p.2.pullRefused k e → f p = .error e) : (s.pull16 >>= f) = .error e := by
  rcases s.pullRefused_append 2 k e h with h | ⟨can, h⟩
  · rw [s.pull16_refused e h, res_error_bind]
  · rw [s.pull16_ok can, res_ok_bind]
    exact rest _ h

/-- The bytes PUL takes for the bits of a list. -/
def listedPulls (mw xw : Width) (nn : Byte) : List (Nat × Reg) → Nat
  | [] => 0
  | (bit, r) :: rest => (if nn.getLsbD bit then pullSize mw xw r else 0) + listedPulls mw xw nn rest

theorem listedPulls_pulOrder (mw xw : Width) (nn : Byte) :
    listedPulls mw xw nn pulOrder = pulBytes mw xw nn [7, 5, 4, 3, 2, 1, 0] := rfl

theorem pullSelected_refused (s : State) (mw xw : Width) (nn : Byte) (l : List (Nat × Reg))
    (h : s.pullRefused (listedPulls mw xw nn l) e) : s.pullSelected mw xw nn l = .error e := by
  induction l generalizing s with
  | nil => cases h
  | cons c rest ih =>
    simp only [listedPulls] at h
    rw [State.pullSelected]
    split
    · next hbit =>
      rw [if_pos hbit] at h
      exact pullReg_then_refused s mw xw c.2 _ _ h ih
    · next hbit =>
      rw [if_neg hbit, Nat.zero_add] at h
      exact ih s h

theorem leaveInterrupt_refused (s : State) (h : s.pullRefused 5 e) : s.leaveInterrupt = .error e :=
  pullReg_then_refused s _ _ .ps 3 _ h fun t ht => pull16_then_refused t 1 _ ht fun (v, u) hp => by
    dsimp only
    rw [State.pullReg_refused _ _ _ .pg e hp, res_error_bind]

end

end Sys2Proof.Machine
end

section
/-! SUPPORT. Which instructions of each family a refused access refuses (R56, R58, U12, U15). -/

namespace Sys2Proof.Machine

section

variable {s : State} {e : Refusal}

/-- The instructions whose operand has the width of m. -/
theorem exec_operand_refused (r : Acc) {o : MemMode} (imm : Word) (nn : Byte) (h : s.operand s.mw (.mem o) = .error e) :
    ∀ i ∈ [Instr.lda r (.mem o), .adc r (.mem o), .sbc r (.mem o), .cmp r (.mem o), .and r (.mem o), .ora r (.mem o),
      .eor r (.mem o), .mpy (.mem o), .div (.mem o), .inc (.mem o), .dec (.mem o), .asl (.mem o), .lsr (.mem o),
      .rol (.mem o), .ror (.mem o), .seb o imm, .clb o imm, .bbs o imm nn, .bbc o imm nn], exec i s = .refused e := by
  simp only [List.forall_mem_cons, List.not_mem_nil, false_imp_iff, implies_true, and_true]
  have read : ∀ f : Word → Res State, complete (s.operand s.mw (.mem o) >>= f) = .refused e := fun _ => complete_bind_refused h
  have readAt : ∀ f : Addr → Word → Res State, complete (s.ea o >>= fun a => s.readData s.mw a >>= f a) = .refused e :=
    readAt_refused h
  exact ⟨read _, read _, read _, read _, read _, read _, read _, read _, read _, readAt _, readAt _, readAt _, readAt _,
    readAt _, readAt _, readAt _, readAt _, readAt _, readAt _⟩

/-- The instructions whose operand has the width of x. -/
theorem exec_indexOperand_refused {o : MemMode} (h : s.operand s.xw (.mem o) = .error e) :
    ∀ i ∈ [Instr.ldx (.mem o), .ldy (.mem o), .cpx (.mem o), .cpy (.mem o)], exec i s = .refused e := by
  simp only [List.forall_mem_cons, List.not_mem_nil, false_imp_iff, implies_true, and_true]
  exact ⟨complete_bind_refused h, complete_bind_refused h, complete_bind_refused h, complete_bind_refused h⟩

theorem exec_store_refused (r : Acc) {o : MemMode} (imm : Word) {p : Addr} :
    ∀ i ∈ [(Instr.sta r o, s.mw), (.ldm o imm, s.mw), (.stx o, s.xw), (.sty o, s.xw)],
      s.ea o = .error e ∨ s.ea o = .ok p ∧ s.storeRefused (s.lengthOf i.1) (bytesOf i.2) p e → exec i.1 s = .refused e := by
  simp only [List.forall_mem_cons, List.not_mem_nil, false_imp_iff, implies_true, and_true]
  exact ⟨fun h => storeAt_refused h _ _, fun h => storeAt_refused h _ _, fun h => storeAt_refused h _ _,
    fun h => storeAt_refused h _ _⟩

theorem exec_writeBack_refused {o : MemMode} (imm : Word) {p : Addr} (ea : s.ea o = .ok p)
    (read : s.canRead (bytesOf s.mw) p = true) :
    ∀ i ∈ [Instr.inc (.mem o), .dec (.mem o), .asl (.mem o), .lsr (.mem o), .rol (.mem o), .ror (.mem o), .seb o imm,
      .clb o imm], s.storeRefused (s.lengthOf i) (bytesOf s.mw) p e → exec i s = .refused e := by
  simp only [List.forall_mem_cons, List.not_mem_nil, false_imp_iff, implies_true, and_true]
  have write : ∀ {len : Nat}, s.storeRefused len (bytesOf s.mw) p e → ∀ (g : Word → Word) (f : Word → State → Res State),
      complete (s.ea o >>= fun a => s.readData s.mw a >>= fun v => s.storeData len s.mw a (g v) >>= f v) = .refused e :=
    writeBack_refused ea read
  exact ⟨fun h => write h _ _, fun h => write h _ _, fun h => write h _ _, fun h => write h _ _, fun h => write h _ _,
    fun h => write h _ _, fun h => write h _ _, fun h => write h _ _⟩

/-- The call ABL pushes the bank and then the offset of the return address (R213). -/
theorem exec_jsrLong_refused (p : Addr) (h : s.pushRefused 4 3 e) : exec (.jsr (.abl p)) s = .refused e := by
  rcases s.pushRefused_append 4 1 2 e h with h | ⟨can, h⟩
  · exact complete_bind_refused (s.push8_refused 4 _ e h)
  · simp only [exec, execJsr, s.push8_ok 4 _ can, res_ok_bind]
    exact complete_bind_refused (State.push16_refused _ 4 _ e (h _ rfl))

theorem exec_push_refused (imm : Word) (nn : Byte) (p : Addr) :
    ∀ i ∈ [(Instr.pha, bytesOf s.mw), (.phb, bytesOf s.mw), (.phd, 2), (.phg, 1), (.php, 2), (.pht, 1), (.phx, bytesOf s.xw),
        (.phy, bytesOf s.xw), (.psh nn, (s.selectedBytes nn).length), (.pea imm, 2), (.per imm, 2), (.jsr (.abs imm), 2),
        (.jsr (.absXInd imm), 2), (.jsr (.abl p), 3), (.brk nn, 5)],
      s.pushRefused (s.lengthOf i.1) i.2 e → exec i.1 s = .refused e := by
  simp only [List.forall_mem_cons, List.not_mem_nil, false_imp_iff, implies_true, and_true]
  have reg : ∀ r : Reg, s.pushRefused r.stackLength (pullSize s.mw s.xw r) e → opPush r s = .refused e :=
    fun r h => complete_bind_refused (s.pushReg_refused _ r e ((regBytes_length r).symm ▸ h))
  have word : ∀ {len : Nat} (v : Word) (f : State → Res State), s.pushRefused len 2 e →
      complete (s.push16 (some len) v >>= f) = .refused e := fun v _ h => complete_bind_refused (s.push16_refused _ v e h)
  exact ⟨reg .a, reg .b, reg .dpr, reg .pg, reg .ps, reg .dt, reg .x, reg .y,
    fun h => complete_bind_refused (pushSelected_refused s nn pshOrder ((listedBytes_pshOrder nn).symm ▸ h)),
    word imm _, word _ _, word _ _, word _ _, exec_jsrLong_refused p,
    fun h => congrArg complete (enterInterrupt_push_refused s _ _ none h)⟩

theorem exec_pull_refused :
    ∀ i ∈ [(Instr.pla, bytesOf s.mw), (.plb, bytesOf s.mw), (.pld, 2), (.plp, 2), (.plt, 1), (.plx, bytesOf s.xw),
        (.ply, bytesOf s.xw), (.rts, 2), (.rtl, 3), (.rti, 5)], s.pullRefused i.2 e → exec i.1 s = .refused e := by
  simp only [List.forall_mem_cons, List.not_mem_nil, false_imp_iff, implies_true, and_true]
  have reg : ∀ r : Reg, s.pullRefused (pullSize s.mw s.xw r) e → opPull r s = .refused e :=
    fun r h => complete_bind_refused (s.pullReg_refused _ _ r e h)
  refine ⟨reg .a, reg .b, reg .dpr, reg .ps, reg .dt, reg .x, reg .y,
    fun h => complete_bind_refused (s.pull16_refused e h), fun h => ?_, fun h => congrArg complete (leaveInterrupt_refused s h)⟩
  refine congrArg complete (pull16_then_refused s 1 _ h fun (v, t) ht => ?_)
  dsimp only
  rw [t.pullReg_refused _ _ .pg e ht, res_error_bind]

theorem exec_pul_refused (nn : Byte) (bit6 : nn.getLsbD 6 = false)
    (h : s.pullRefused (pulBytes s.mw s.xw nn [7, 5, 4, 3, 2, 1, 0]) e) : exec (.pul nn) s = .refused e := by
  rw [← listedPulls_pulOrder] at h
  simp only [exec, execPul, bit6, Bool.false_eq_true, if_false]
  exact complete_bind_refused (pullSelected_refused s _ _ nn pulOrder h)

/-- The pointer of JSR (ABS,X) is read after the pushes (R99). -/
theorem exec_jsrIndirect_refused (imm : Word) (can : s.canPush 3 2 s.sp = true)
    (hl : imm.toNat + s.xi.toNat + 1 ≤ 0xFFFF) (h : s.readRefused 2 (addrOf s.pg (imm + s.xi)) e) :
    exec (.jsr (.absXInd imm)) s = .refused e := by
  simp only [exec, execJsr, s.push16_ok 3 _ can, res_ok_bind]
  exact complete_bind_refused (indexedTarget_refused (s := s.pushed _) hl ((pushed_readRefused _ 2 _).2 h))

theorem blockTransfer_refused (up : Bool) (n1 n2 : Byte)
    (h : ((List.range (lowBits s.mw s.a)).findSome? fun k =>
      (s.readRefusal (addrOf n2 (BitVec.ofNat 16 (blockIndex s.xw up s.x k)))).or
        (s.storeRefusal 3 (addrOf n1 (BitVec.ofNat 16 (blockIndex s.xw up s.y k))))) = some e)
    (mode : s.cfg.mode = .singleChip → n1 = 0) : blockTransfer (directionOf up) n1 n2 s = .refused e := by
  have legal : ¬ (s.cfg.mode = .singleChip ∧ n1 ≠ 0) := fun ⟨hm, hn⟩ => hn (mode hm)
  rw [blockTransfer, if_neg legal]
  refine complete_bind_refused (State.moveBytes_refused up n1 n2 _ _ s s.xw rfl e ?_)
  rw [State.moveCount, truncTo_toNat]
  exact h

end

end Sys2Proof.Machine
end

section
/-! SUPPORT. Proofs of the statements about memory (20_memory.md): what a step fetches and keeps, the values of operands, the
accesses that are refused, and the read-modify-write of a datum. -/

namespace Sys2Proof.Machine

/-- Settles O6: at a quiet boundary the step is `exec` of what the fetch decodes to. -/
theorem stepRunsDecoded : Obligations.StepRunsDecoded := by
  intro s i rest inputs accepted run decoded
  exact step_of_boundary_fetch s i (s.boundary_of_quiet inputs accepted run) (s.fetch_of_decode i rest decoded)

/-- Settles O7: the fetch reaches at least as far as the encoding, and the decoder reads the encoding back whatever the fetch
finds behind it. -/
theorem stepRunsMemory : Obligations.StepRunsMemory := by
  intro s i inputs accepted run wf bytes
  obtain ⟨rest, fetched⟩ := s.fetchFrom_begins _ maxLength s.pcAddr (encode_length_le _ _ i wf) bytes
  refine stepRunsDecoded s i rest inputs accepted run ?_
  rw [fetched]
  exact decode_encode _ _ i wf rest

/-- Settles O8: the boundary keeps the invariant, and after it so does each of the four kinds of step. -/
theorem stepKeepsInv : Obligations.StepKeepsInv := by
  intro s t h ht
  have hb := h.atBoundary
  cases (step_iff s t).1 ht with
  | reset _ done => exact hb.of_resetSequence done
  | interrupt k src _ _ done => exact hb.of_acceptRequest done
  | asleep _ _ _ done => exact done ▸ hb
  | instruction i u _ _ _ _ ran done => exact done ▸ (hb.of_exec ran).withCycles _

/-- Settles O19: both forms of an operand have a lemma of their own for their value. -/
theorem operandValues : Obligations.OperandValues := by
  intro s w imm o a
  refine ⟨⟨_, rfl, truncTo_toNat w imm⟩, fun ea read => ?_⟩
  obtain ⟨v, hv, value⟩ := s.readData_ok w a read
  exact ⟨v, by simp [State.operand, ea, hv], value⟩

/-- Settles O20: each clause is a refused pointer, operand, store, push or pull, and the instruction is refused with it. -/
theorem accessRefused : Obligations.AccessRefused := by
  intro s r o imm dd nn p e
  refine ⟨?direct, ?directLong, ?indexed, ?stack, fun w => operand_refused, exec_operand_refused r imm nn,
    exec_indexOperand_refused, exec_store_refused r imm, exec_writeBack_refused imm, ?jump, ?jumpIndexed,
    exec_push_refused imm nn p, ?pei, ?vector, exec_pull_refused, exec_pul_refused nn, ?block⟩
  case direct =>
    intro hp h
    obtain rfl := s.eq_directAddr dd p hp
    exact ⟨ea_dirInd_refused h, ea_dirIndY_refused h, complete_bind_refused (s.readWord_refused _ e h)⟩
  case directLong =>
    intro hp h
    obtain rfl := s.eq_directAddr dd p hp
    exact ⟨ea_dirIndL_refused h, ea_dirIndLY_refused h⟩
  case indexed =>
    intro hp h
    obtain rfl := s.eq_directAddr_xi dd p hp
    exact ea_dirXInd_refused h
  case stack =>
    intro hp hl h
    have hw := wordOfByte_toNat nn
    obtain rfl := eq_addrOf_add 0 s.sp (wordOfByte nn) p (by simp [hw, hp]) (by rw [hw]; exact hl)
    exact ea_srIndY_refused hl h
  case jump =>
    intro hp
    obtain rfl := eq_addrOf_zero imm p hp
    exact ⟨fun h => complete_bind_refused (s.readWord_refused _ e h), fun h => complete_bind_refused (s.readLong_refused _ e h)⟩
  case jumpIndexed =>
    intro hp hl h
    rw [← s.xi_toNat] at hp hl
    obtain rfl := eq_addrOf_add s.pg imm s.xi p hp hl
    exact ⟨complete_bind_refused (indexedTarget_refused hl h), fun can => exec_jsrIndirect_refused imm can hl h⟩
  case pei =>
    intro hp read h
    obtain rfl := s.eq_directAddr dd p hp
    simp only [exec, execPei, s.readWord_ok _ read, res_ok_bind]
    exact complete_bind_refused (s.push16_refused 2 _ e h)
  case vector => exact fun can h => congrArg complete (enterInterrupt_vector_refused s _ _ none can h)
  case block =>
    simp only [List.forall_mem_cons, List.not_mem_nil, false_imp_iff, implies_true, and_true]
    exact ⟨blockTransfer_refused true dd nn, blockTransfer_refused false dd nn⟩

/-- Settles O21: the store checks the distance from PG:PC before anything else, and in RAM it checks nothing else. -/
theorem prefetchedStoreRefused : Obligations.PrefetchedStoreRefused := by
  intro s r o a m ea ram go
  have mw : s.mw = .w8 := by simp [State.mw, widthOf, m]
  rw [exec_sta s r o a ea, mw]
  simp only [State.storeData]
  refine ⟨fun near => ?_, fun far => ?_⟩
  · simp only [State.storeByte, State.inPrefetch, near, decide_true, if_true, res_error_bind, complete_error]
  · have store : s.canStoreByte (s.lengthOf (.sta r o)) a = true := by
      simp only [State.canStoreByte, ram, State.inPrefetch, Nat.not_lt.2 far]
      rfl
    rw [s.storeByte_ok _ a _ store]
    exact ⟨_, complete_of_mayContinue s _ (.sta r o) _ go rfl rfl rfl (State.advance_pcAddr _ _)⟩

/-- Settles O31: each of the six is a read-modify-write with the spec's result and flags. -/
theorem modifyMemory : Obligations.ModifyMemory := by
  intro s o a ea wf p hp store go
  obtain ⟨f, q, hm⟩ := modifications_modify s p hp
  have go' : s.mayGoTo (s.nextPC (Dest.mem o).length) s.dt = true := by
    rw [← hm.length]
    exact go
  rw [hm.length] at store
  obtain ⟨v, m, hv, value, stored, ran⟩ := readModifyWrite_mem f q o s a ea wf store go'
  have flags : flagsNZ s.mw (f v).toNat (s.ps.withNZ s.mw (f v)) :=
    withNZ_flagsNZ_of _ _ _ _ (lowBits_of_lt _ _ (hm.bound v))
  refine ⟨_, (hm.exec _).trans ran, ?_⟩
  rw [hm.ps v hv]
  dsimp only
  rw [← value, ← hm.result v hv]
  refine ⟨stored, flags, rfl, ?_, ?_⟩
  · rw [passes, hm.length]
    exact State.advance_pcAddr _ _
  · refine onlyChanges_of_parts _ _ _ fun part => ?_
    cases part <;> simp [Part.same, PS.withNZ]

end Sys2Proof.Machine
end

section
/-! SUPPORT. The encoder writes back what the decoder reads (R72, R79): first what a reader of operand bytes has taken, then the
entries of the three tables, each of which spells the instructions it answers. -/

namespace Sys2Proof

/-! What a reader has taken -/

section

variable {flag : Bool} {bytes rest : List Byte} {i : Instr}

theorem arg8_ok {k : Byte → Instr} (h : arg8 k bytes = .ok i rest) : ∃ b, i = k b ∧ bytes = b :: rest := by
  match bytes, h with
  | b :: _, rfl => exact ⟨b, rfl, rfl⟩

theorem arg8Arg8_ok {k : Byte → Byte → Instr} (h : arg8Arg8 k bytes = .ok i rest) :
    ∃ b c, i = k b c ∧ bytes = b :: c :: rest := by
  match bytes, h with
  | b :: c :: _, rfl => exact ⟨b, c, rfl, rfl⟩

theorem wordBytes_wordOf (hi lo : Byte) : wordBytes (Machine.wordOf hi lo) = [lo, hi] := by
  simp [wordBytes]

theorem arg16_ok {k : Word → Instr} (h : arg16 k bytes = .ok i rest) : ∃ v, i = k v ∧ bytes = wordBytes v ++ rest := by
  match bytes, h with
  | l :: u :: _, rfl => exact ⟨_, rfl, by rw [wordBytes_wordOf]; rfl⟩

theorem arg24_ok {k : Addr → Instr} (h : arg24 k bytes = .ok i rest) : ∃ v, i = k v ∧ bytes = longBytes v ++ rest := by
  match bytes, h with
  | l :: u :: b :: _, rfl => exact ⟨_, rfl, by simp [longBytes, wordBytes]⟩

theorem immFits_wordOfByte (flag : Bool) (b : Byte) : immFits flag (Machine.wordOfByte b) = true := by
  have hb := b.isLt
  simp [immFits, Machine.wordOfByte_toNat, hb]

theorem immBytes_wordOfByte (b : Byte) : immBytes true (Machine.wordOfByte b) = [b] := by
  simp [immBytes]

theorem argImm_ok {k : Word → Instr} (h : argImm flag k bytes = .ok i rest) :
    ∃ v, immFits flag v = true ∧ i = k v ∧ bytes = immBytes flag v ++ rest := by
  cases flag with
  | true =>
    obtain ⟨b, rfl, rfl⟩ := arg8_ok h
    exact ⟨_, immFits_wordOfByte true b, rfl, by rw [immBytes_wordOfByte]; rfl⟩
  | false =>
    obtain ⟨v, rfl, rfl⟩ := arg16_ok h
    exact ⟨v, rfl, rfl, rfl⟩

theorem argImmRel_ok {k : Word → Byte → Instr} (h : argImmRel flag k bytes = .ok i rest) :
    ∃ v rr, immFits flag v = true ∧ i = k v rr ∧ bytes = immBytes flag v ++ rr :: rest := by
  cases flag with
  | true =>
    obtain ⟨b, rr, rfl, rfl⟩ := arg8Arg8_ok h
    exact ⟨_, rr, immFits_wordOfByte true b, rfl, by rw [immBytes_wordOfByte]; rfl⟩
  | false =>
    match bytes, h with
    | l :: u :: rr :: _, rfl => exact ⟨_, rr, rfl, rfl, congrArg (· ++ _) (wordBytes_wordOf u l).symm⟩

theorem arg8Imm_ok {k : Byte → Word → Instr} (h : arg8Imm flag k bytes = .ok i rest) :
    ∃ b v, immFits flag v = true ∧ i = k b v ∧ bytes = b :: (immBytes flag v ++ rest) := by
  match bytes, h with
  | b :: _, h =>
    obtain ⟨v, fits, rfl, rfl⟩ := argImm_ok h
    exact ⟨b, v, fits, rfl, rfl⟩

theorem arg16Imm_ok {k : Word → Word → Instr} (h : arg16Imm flag k bytes = .ok i rest) :
    ∃ a v, immFits flag v = true ∧ i = k a v ∧ bytes = wordBytes a ++ (immBytes flag v ++ rest) := by
  match bytes, h with
  | l :: u :: _, h =>
    obtain ⟨v, fits, rfl, rfl⟩ := argImm_ok h
    exact ⟨_, v, fits, rfl, by rw [wordBytes_wordOf]; rfl⟩

theorem arg8ImmRel_ok {k : Byte → Word → Byte → Instr} (h : arg8ImmRel flag k bytes = .ok i rest) :
    ∃ b v rr, immFits flag v = true ∧ i = k b v rr ∧ bytes = b :: (immBytes flag v ++ rr :: rest) := by
  match bytes, h with
  | b :: _, h =>
    obtain ⟨v, rr, fits, rfl, rfl⟩ := argImmRel_ok h
    exact ⟨b, v, rr, fits, rfl, rfl⟩

theorem arg16ImmRel_ok {k : Word → Word → Byte → Instr} (h : arg16ImmRel flag k bytes = .ok i rest) :
    ∃ a v rr, immFits flag v = true ∧ i = k a v rr ∧ bytes = wordBytes a ++ (immBytes flag v ++ rr :: rest) := by
  match bytes, h with
  | l :: u :: _, h =>
    obtain ⟨v, rr, fits, rfl, rfl⟩ := argImmRel_ok h
    exact ⟨_, v, rr, fits, rfl, by rw [wordBytes_wordOf]; rfl⟩

end

/-! Entries of the tables -/

/-- The bytes encode the instruction, which is well formed where `fits` says so. -/
def Spells (m x : Bool) (i : Instr) (fits : Bool) (bytes : List Byte) : Prop := i.wf m x = fits ∧ encode m x i = bytes

theorem Spells.written {m x fits : Bool} {i : Instr} {bytes : List Byte} (h : Spells m x i fits bytes) (hf : fits = true)
    (rest : List Byte) : i.wf m x = true ∧ encode m x i ++ rest = bytes ++ rest :=
  ⟨h.1.trans hf, congrArg (· ++ rest) h.2⟩

/-- What a table may hold for `code`: nothing, or a reader of operand bytes that, behind `code`, spell the instruction it
answers. -/
inductive Entry (m x : Bool) (code : List Byte) : Reader → Prop where
  | unassigned (e : DecodeError) : Entry m x code (unassigned e)
  | arg0 (i : Instr) (h : Spells m x i true code) : Entry m x code (arg0 i)
  | arg8 (k : Byte → Instr) (h : ∀ b, Spells m x (k b) true (code ++ [b])) : Entry m x code (arg8 k)
  | arg16 (k : Word → Instr) (h : ∀ v, Spells m x (k v) true (code ++ wordBytes v)) : Entry m x code (arg16 k)
  | arg24 (k : Addr → Instr) (h : ∀ v, Spells m x (k v) true (code ++ longBytes v)) : Entry m x code (arg24 k)
  | arg8Arg8 (k : Byte → Byte → Instr) (h : ∀ b c, Spells m x (k b c) true (code ++ [b, c])) : Entry m x code (arg8Arg8 k)
  | argImm (flag : Bool) (k : Word → Instr) (h : ∀ v, Spells m x (k v) (immFits flag v) (code ++ immBytes flag v)) :
    Entry m x code (argImm flag k)
  | arg8Imm (flag : Bool) (k : Byte → Word → Instr)
    (h : ∀ b v, Spells m x (k b v) (immFits flag v) (code ++ b :: immBytes flag v)) : Entry m x code (arg8Imm flag k)
  | arg16Imm (flag : Bool) (k : Word → Word → Instr)
    (h : ∀ a v, Spells m x (k a v) (immFits flag v) (code ++ (wordBytes a ++ immBytes flag v))) :
    Entry m x code (arg16Imm flag k)
  | arg8ImmRel (flag : Bool) (k : Byte → Word → Byte → Instr)
    (h : ∀ b v rr, Spells m x (k b v rr) (immFits flag v) (code ++ b :: (immBytes flag v ++ [rr]))) :
    Entry m x code (arg8ImmRel flag k)
  | arg16ImmRel (flag : Bool) (k : Word → Word → Byte → Instr)
    (h : ∀ a v rr, Spells m x (k a v rr) (immFits flag v) (code ++ (wordBytes a ++ (immBytes flag v ++ [rr])))) :
    Entry m x code (arg16ImmRel flag k)

/-- What an entry answers is well formed, and the code and the operand bytes are its encoding. -/
theorem Entry.written {m x : Bool} {code bytes rest : List Byte} {r : Reader} {i : Instr} (entry : Entry m x code r)
    (ran : r bytes = .ok i rest) : i.wf m x = true ∧ encode m x i ++ rest = code ++ bytes := by
  cases entry with
  | unassigned e => cases ran
  | arg0 i h =>
    cases ran
    exact h.written rfl _
  | arg8 k h =>
    obtain ⟨b, rfl, rfl⟩ := arg8_ok ran
    simpa using (h b).written rfl rest
  | arg16 k h =>
    obtain ⟨v, rfl, rfl⟩ := arg16_ok ran
    simpa using (h v).written rfl rest
  | arg24 k h =>
    obtain ⟨v, rfl, rfl⟩ := arg24_ok ran
    simpa using (h v).written rfl rest
  | arg8Arg8 k h =>
    obtain ⟨b, c, rfl, rfl⟩ := arg8Arg8_ok ran
    simpa using (h b c).written rfl rest
  | argImm flag k h =>
    obtain ⟨v, fits, rfl, rfl⟩ := argImm_ok ran
    simpa using (h v).written fits rest
  | arg8Imm flag k h =>
    obtain ⟨b, v, fits, rfl, rfl⟩ := arg8Imm_ok ran
    simpa using (h b v).written fits rest
  | arg16Imm flag k h =>
    obtain ⟨a, v, fits, rfl, rfl⟩ := arg16Imm_ok ran
    simpa using (h a v).written fits rest
  | arg8ImmRel flag k h =>
    obtain ⟨b, v, rr, fits, rfl, rfl⟩ := arg8ImmRel_ok ran
    simpa using (h b v rr).written fits rest
  | arg16ImmRel flag k h =>
    obtain ⟨a, v, rr, fits, rfl, rfl⟩ := arg16ImmRel_ok ran
    simpa using (h a v rr).written fits rest

/-- The row and the column of a code (R70). -/
theorem exists_row_column (code : Byte) :
    ∃ r c, r < 16 ∧ code.toNat / 16 = r ∧ code.toNat % 16 = c ∧ code = BitVec.ofNat 8 (16 * r + c) := by
  have hc := code.isLt
  exact ⟨_, _, by omega, rfl, rfl, by rw [Nat.div_add_mod, BitVec.ofNat_toNat, BitVec.setWidth_eq]⟩

section

variable (m x : Bool) (code : Byte)

/-- Each of the 256 codes of Table 1 by its row and its column (R78). -/
theorem table1_entry : Entry m x [code] (table1 m x code) := by
  obtain ⟨r, c, hr, row, column, digits⟩ := exists_row_column code
  rw [table1, row, column, digits]
  interval_cases r
  -- for each row its columns, then for each column the one form of entry it has
  all_goals
    simp only [table1Row0, table1Row1, table1Row2, table1Row3, table1Row4, table1Row5, table1Row6, table1Row7, table1Row8,
      table1Row9, table1RowA, table1RowB, table1RowC, table1RowD, table1RowE, table1RowF]
    split
  all_goals constructor <;> intros <;> exact ⟨rfl, rfl⟩

/-- Each of the 256 codes of Table 2 (R80). -/
theorem table2_entry : Entry m x [0x42, code] (table2 m x code) := by
  obtain ⟨r, c, hr, row, column, digits⟩ := exists_row_column code
  rw [table2, row, column, digits]
  interval_cases r
  all_goals
    simp only [table2Row0, table2Row1, table2Row2, table2Row3, table2Row4, table2Row5, table2Row6, table2Row7, table2Row8,
      table2Row9, table2RowA, table2RowB, table2RowC, table2RowD, table2RowE, table2RowF]
    split
  all_goals constructor <;> intros <;> exact ⟨rfl, rfl⟩

/-- Each of the 256 codes of Table 3, most of whose rows are empty (R81). -/
theorem table3_entry : Entry m x [0x89, code] (table3 m x code) := by
  obtain ⟨r, c, hr, row, column, digits⟩ := exists_row_column code
  rw [table3, row, column, digits]
  interval_cases r
  -- an empty row has no columns to tell apart
  all_goals
    simp only [table3Row0, table3Row1, table3Row2, table3Row3, table3Row4, table3Row5, table3Row6, table3Row7, table3Row8,
      table3Row9, table3RowA, table3RowB, table3RowC, table3RowD, table3RowE, table3RowF]
  any_goals split
  all_goals constructor <;> intros <;> exact ⟨rfl, rfl⟩

end

/-- Bytes that decode begin with the encoding of what they decode to, which is well formed. -/
theorem encode_decode (m x : Bool) (bytes rest : List Byte) (i : Instr) (h : decode m x bytes = .ok i rest) :
    i.wf m x = true ∧ encode m x i ++ rest = bytes := by
  cases bytes with
  | nil => cases h
  | cons b0 tl =>
    simp only [decode] at h
    split_ifs at h with h42 h89
    · cases tl with
      | nil => cases h
      | cons b1 operands => exact h42 ▸ (table2_entry m x b1).written h
    · cases tl with
      | nil => cases h
      | cons b1 operands => exact h89 ▸ (table3_entry m x b1).written h
    · exact (table1_entry m x b0).written h

theorem encode_ne_nil (m x : Bool) (i : Instr) (h : i.wf m x = true) : encode m x i ≠ [] := by
  intro empty
  have back := decode_encode m x i h []
  rw [empty] at back
  cases back

/-! Codes without an entry (R79) -/

section

variable {code : Byte} (m x : Bool) (tl : List Byte)

/-- A code with an entry in Table 2 answers where four bytes follow; one without has none under any flags. -/
theorem table2_unassigned (h : table2 false false code [0, 0, 0, 0] = .bad (.code2 code)) :
    table2 m x code tl = .bad (.code2 code) := by
  obtain ⟨r, c, hr, row, column, digits⟩ := exists_row_column code
  rw [table2, row, column, digits] at h ⊢
  interval_cases r
  all_goals
    simp only [table2Row0, table2Row1, table2Row2, table2Row3, table2Row4, table2Row5, table2Row6, table2Row7, table2Row8,
      table2Row9, table2RowA, table2RowB, table2RowC, table2RowD, table2RowE, table2RowF]
    split
    any_goals cases h
    rfl

/-- A code with an entry in Table 3 answers where four bytes follow; one without has none under any flags. -/
theorem table3_unassigned (h : table3 false false code [0, 0, 0, 0] = .bad (.code3 code)) :
    table3 m x code tl = .bad (.code3 code) := by
  obtain ⟨r, c, hr, row, column, digits⟩ := exists_row_column code
  rw [table3, row, column, digits] at h ⊢
  interval_cases r
  -- an empty row has no columns to tell apart
  all_goals
    simp only [table3Row0, table3Row1, table3Row2, table3Row3, table3Row4, table3Row5, table3Row6, table3Row7, table3Row8,
      table3Row9, table3RowA, table3RowB, table3RowC, table3RowD, table3RowE, table3RowF]
  any_goals split
  any_goals cases h
  all_goals rfl

theorem decode_02 : decode m x (0x02 :: tl) = .bad (.code1 0x02) := rfl

theorem decode_42_unassigned (h : decode false false [0x42, code, 0, 0, 0, 0] = .bad (.code2 code)) :
    decode m x (0x42 :: code :: tl) = .bad (.code2 code) := table2_unassigned m x tl h

theorem decode_89_unassigned (h : decode false false [0x89, code, 0, 0, 0, 0] = .bad (.code3 code)) :
    decode m x (0x89 :: code :: tl) = .bad (.code3 code) := table3_unassigned m x tl h

end

end Sys2Proof
end

section
/-! SUPPORT. What a fetch reads first, and the fault of a step whose fetch finds no instruction (R58, R79). -/

namespace Sys2Proof.Machine

theorem State.fetchFrom_succ (s : State) (n : Nat) (a : Addr) (h : s.canReadByte a = true) :
    (s.fetchFrom (n + 1) a).1 = s.mem.get a :: (s.fetchFrom n (a + 1)).1 := by
  simp only [State.fetchFrom, s.readByte_ok a h]

theorem step_of_boundary_fault (s : State) (f : Fault) (boundary : s.boundary = .instruction s) (fetched : s.fetch = .fault f) :
    step s = .fault f := by
  simp only [step, boundary, fetched]

end Sys2Proof.Machine
end

section
/-! SUPPORT. Effective addresses as numbers (R83, R84, R86, R94). -/

namespace Sys2Proof.Machine

/-! Sums -/

theorem addrOfWord_toNat (v : Word) : (addrOfWord v).toNat = v.toNat := by
  have := v.isLt
  simp only [addrOfWord, BitVec.toNat_setWidth]
  omega

theorem State.directAddr_toNat (s : State) (dd : Byte) : (s.directAddr dd).toNat = s.dpr.toNat + dd.toNat := by
  have h1 := s.dpr.isLt
  have h2 := dd.isLt
  simp only [State.directAddr, addrOfByte, BitVec.toNat_add, addrOfWord_toNat, BitVec.toNat_setWidth]
  omega

theorem addr_add_word_toNat (a : Addr) (v : Word) : (a + addrOfWord v).toNat = (a.toNat + v.toNat) % 2 ^ 24 := by
  rw [BitVec.toNat_add, addrOfWord_toNat]

/-- A direct sum with an index stays below 2^24. -/
theorem State.directAddr_add_word_toNat (s : State) (dd : Byte) (v : Word) :
    (s.directAddr dd + addrOfWord v).toNat = s.dpr.toNat + dd.toNat + v.toNat := by
  have h1 := s.dpr.isLt
  have h2 := dd.isLt
  have h3 := v.isLt
  rw [addr_add_word_toNat, s.directAddr_toNat]
  omega

/-- Answering the address `b` is answering the address with the number of `b`. -/
theorem ok_iff_toNat (a b : Addr) (n : Nat) (h : b.toNat = n) : (Except.ok b : Res Addr) = .ok a ↔ a.toNat = n := by
  rw [Except.ok.injEq, ← BitVec.toNat_inj, h, eq_comm]

/-! Pointers -/

/-- A 2-byte pointer that can be read, in the bank DT. -/
theorem State.pointer_ok (s : State) (p : Addr) (h : s.canRead 2 p = true) :
    ∃ v, s.readWord p = .ok v ∧ (addrOf s.dt v).toNat = 65536 * s.dt.toNat + s.number 2 p :=
  ⟨_, s.readWord_ok p h, by rw [addrOf_toNat, ← s.number_word, Nat.add_comm]⟩

theorem State.number_long (s : State) (a : Addr) :
    s.number 3 a = (addrOf (s.mem.get (a + 2)) (wordOf (s.mem.get (a + 1)) (s.mem.get a))).toNat := by
  have e : a + 1 + 1 = a + 2 := BitVec.add_assoc a 1 1
  simp only [addrOf_toNat, wordOf_toNat, State.number, e]
  omega

end Sys2Proof.Machine
end

section
/-! SUPPORT. Proofs of the statements about encoding and addressing (30_encoding.md): decoder and encoder, the length of an
encoding, the codes without an operation, the effective addresses. -/

namespace Sys2Proof.Machine

/-- Settles O2: the decoder reads every family of instructions back. -/
theorem decodeEncode : Obligations.DecodeEncode := fun m x i rest wf => decode_encode m x i wf rest

/-- Settles O3: every entry of the three tables spells what it answers. -/
theorem encodeDecode : Obligations.EncodeDecode := encode_decode

/-- Settles O4: the length rule, which never exceeds 6, and an encoding is never empty, since no instruction decodes from
nothing. -/
theorem encodedLength : Obligations.EncodedLength := fun m x i wf =>
  ⟨encode_length i m x wf, List.length_pos_iff.2 (encode_ne_nil m x i wf), encode_length_le m x i wf⟩

/-- Settles O5: the counts are computed; the fetch begins with the code, and a code without an entry has none under any flags
and before any bytes. -/
theorem undefinedCodesFault : Obligations.UndefinedCodesFault := by
  refine ⟨rfl, rfl, fun s inputs accepted run first => ?_⟩
  have boundary := s.boundary_of_quiet inputs accepted run
  have fetched : (s.fetchFrom maxLength s.pcAddr).1 = s.mem.get s.pcAddr :: (s.fetchFrom 5 (s.pcAddr + 1)).1 :=
    s.fetchFrom_succ 5 _ first
  refine ⟨fun h02 => ?_, fun c second hc => ?_⟩
  · refine step_of_boundary_fault s _ boundary ?_
    simp only [State.fetch, fetched, h02, decode_02]
  · rw [s.fetchFrom_succ 4 _ second, hc] at fetched
    refine ⟨fun h42 unassigned => ?_, fun h89 unassigned => ?_⟩ <;> refine step_of_boundary_fault s _ boundary ?_
    · simp only [State.fetch, fetched, h42, decode_42_unassigned _ _ _ unassigned]
    · simp only [State.fetch, fetched, h89, decode_89_unassigned _ _ _ unassigned]

/-- Settles O16: each mode answers one address, whose number is the sum. -/
theorem plainAddresses : Obligations.PlainAddresses := by
  intro s dd mmll hhmmll xi yi
  have absolute : (addrOf s.dt mmll).toNat = 65536 * s.dt.toNat + mmll.toNat := by rw [addrOf_toNat, Nat.add_comm]
  refine ⟨?dir, ?dirX, ?dirY, ?abs, ?absX, ?absY, ?abl, ?ablX⟩ <;> intro a
  case dir => exact ok_iff_toNat a _ _ (s.directAddr_toNat dd)
  case dirX => exact ok_iff_toNat a _ _ (by rw [s.directAddr_add_word_toNat, s.xi_toNat])
  case dirY => exact ok_iff_toNat a _ _ (by rw [s.directAddr_add_word_toNat, s.yi_toNat])
  case abs => exact ok_iff_toNat a _ _ absolute
  case absX => exact ok_iff_toNat a _ _ (by rw [addr_add_word_toNat, absolute, s.xi_toNat])
  case absY => exact ok_iff_toNat a _ _ (by rw [addr_add_word_toNat, absolute, s.yi_toNat])
  case abl => exact (Except.ok.injEq _ _).to_iff.trans eq_comm
  case ablX => exact ok_iff_toNat a _ _ (by rw [addr_add_word_toNat, s.xi_toNat])

/-- Settles O17: the pointer lies at the direct address and reads as its little-endian number. -/
theorem indirectAddresses : Obligations.IndirectAddresses := by
  intro s dd p yi
  refine ⟨?indexed, ?direct, ?directLong⟩
  case indexed =>
    intro hp read
    obtain rfl := s.eq_directAddr_xi dd p hp
    obtain ⟨v, hv, address⟩ := s.pointer_ok _ read
    exact ⟨addrOf s.dt v, by simp only [State.ea, hv, res_ok_bind, res_pure], address⟩
  case direct =>
    intro hp read
    obtain rfl := s.eq_directAddr dd p hp
    obtain ⟨v, hv, address⟩ := s.pointer_ok _ read
    refine ⟨⟨addrOf s.dt v, ?_, address⟩, ⟨addrOf s.dt v + addrOfWord s.yi, ?_, ?_⟩⟩
    · simp only [State.ea, hv, res_ok_bind, res_pure]
    · simp only [State.ea, hv, res_ok_bind, res_pure]
    · rw [addr_add_word_toNat, address, s.yi_toNat]
  case directLong =>
    intro hp read
    obtain rfl := s.eq_directAddr dd p hp
    have hv := s.readLong_ok _ read
    refine ⟨⟨_, hv, (s.number_long _).symm⟩, ⟨_, by simp only [State.ea, hv, res_ok_bind, res_pure]; rfl, ?_⟩⟩
    rw [addr_add_word_toNat, ← s.number_long, s.yi_toNat]

/-- Settles O18: within bank 0 the sum of S and the offset does not wrap; beyond it the mode is refused. -/
theorem stackRelativeAddresses : Obligations.StackRelativeAddresses := by
  intro s nn
  have hn := wordOfByte_toNat nn
  refine ⟨?sr, ?srBeyond, ?srIndY, ?srIndYBeyond⟩
  case sr =>
    intro inBank
    refine ⟨_, if_pos inBank, ?_⟩
    rw [addrOf_toNat, BitVec.toNat_add, hn, Nat.mod_eq_of_lt (Nat.lt_succ_of_le inBank)]
    rfl
  case srBeyond => exact fun beyond => if_neg (Nat.not_le.2 beyond)
  case srIndY =>
    intro p hp inBank read
    obtain rfl := eq_addrOf_add 0 s.sp (wordOfByte nn) p (by simp [hn, hp]) (by rw [hn]; exact inBank)
    obtain ⟨v, hv, address⟩ := s.pointer_ok _ read
    refine ⟨addrOf s.dt v + addrOfWord s.yi, ?_, ?_⟩
    · simp only [State.ea, if_pos inBank, hv, res_ok_bind, res_pure]
    · rw [addr_add_word_toNat, address, s.yi_toNat]
  case srIndYBeyond => exact fun beyond => if_neg (Nat.not_le.2 beyond)

end Sys2Proof.Machine
end

section
/-! SUPPORT. Frames that compose, and how an instruction ends that changes listed parts and moves past itself (R22, R365). -/

namespace Sys2Proof.Machine

/-! Frames -/

theorem Part.same.trans {p : Part} {s t u : State} (h : p.same s t) (k : p.same t u) : p.same s u := by
  cases p
  case mem => exact fun a => (k a).trans (h a)
  all_goals exact Eq.trans k h

/-- One change after another changes the parts of both. -/
theorem onlyChanges.append {l k : List Part} {s t u : State} (h : onlyChanges l s t) (h' : onlyChanges k t u) :
    onlyChanges (l ++ k) s u := by
  intro p hp
  obtain ⟨hl, hk⟩ := not_or.1 (mt List.mem_append.2 hp)
  exact (h p hl).trans (h' p hk)

theorem setAcc_onlyChanges (s : State) (r : Acc) (w : Width) (v : Word) : onlyChanges [.acc r] s (s.setAcc r w v) := by
  refine onlyChanges_of_parts _ _ _ fun p => ?_
  cases p
  case acc q =>
    by_cases hq : q = r
    · exact .inl (by simp [hq])
    · exact .inr (s.setAcc_acc_ne r q w v hq)
  all_goals simp [Part.same]

theorem setX_onlyChanges (s : State) (w : Width) (v : Word) : onlyChanges [.x] s (s.setX w v) :=
  onlyChanges_of_parts _ _ _ fun p => by cases p <;> simp [Part.same]

theorem setY_onlyChanges (s : State) (w : Width) (v : Word) : onlyChanges [.y] s (s.setY w v) :=
  onlyChanges_of_parts _ _ _ fun p => by cases p <;> simp [Part.same]

theorem setDt_onlyChanges (s : State) (v : Byte) : onlyChanges [.dt] s (s.setDt v) :=
  onlyChanges_of_parts _ _ _ fun p => by cases p <;> simp [Part.same]

theorem setMem_onlyChanges (s : State) (m : Memory) : onlyChanges [.mem] s (s.setMem m) :=
  onlyChanges_of_parts _ _ _ fun p => by cases p <;> simp [Part.same]

theorem setNZ_onlyChanges (s : State) (w : Width) (v : Word) : onlyChanges [.flagN, .flagZ] s (s.setNZ w v) :=
  onlyChanges_of_parts _ _ _ fun p => by cases p <;> simp [Part.same, PS.withNZ]

theorem advance_onlyChanges (s : State) (n : Nat) : onlyChanges [.pc, .pg] s (s.advance n) :=
  onlyChanges_of_parts _ _ _ fun p => by cases p <;> simp [Part.same]

/-! Moving past an instruction -/

/-- What decides where an instruction ends and whether the processor mode lets it end there (R22, R365). -/
def endParts : List Part := [.cfg, .dt, .pc, .pg]

/-- An instruction whose effect `u` leaves the banks and the program counter alone, and which then moves past itself, completes
where `mayContinue` says so. -/
theorem advance_completes {l : List Part} {s u : State} {i : Instr} (only : onlyChanges l s u) (keeps : ∀ p ∈ endParts, p ∉ l)
    (go : s.mayContinue i = true) :
    complete (.ok (u.advance (s.lengthOf i))) = .next (u.advance (s.lengthOf i)) ∧ passes i s (u.advance (s.lengthOf i)) ∧
      onlyChanges (l ++ [.pc, .pg]) s (u.advance (s.lengthOf i)) := by
  have kept : ∀ p ∈ endParts, p.same s u := fun p hp => only p (keeps p hp)
  simp only [endParts, List.forall_mem_cons, List.not_mem_nil, false_imp_iff, implies_true, and_true] at kept
  obtain ⟨cfg, dt, pc, pg⟩ := kept
  have passed : (u.advance (s.lengthOf i)).pcAddr = s.nextPC (s.lengthOf i) := by
    rw [State.advance_pcAddr, State.nextPC, State.nextPC, State.pcAddr, State.pcAddr, pc, pg]
  exact ⟨complete_of_mayContinue s _ i _ go rfl cfg dt passed, passed, only.append (advance_onlyChanges u _)⟩

theorem complete_bind_ok {α : Type} {x : Res α} {a : α} (h : x = .ok a) (f : α → Res State) :
    complete (x >>= f) = complete (f a) := by
  rw [h, res_ok_bind]

/-- The entry of an instruction that is well formed whatever m and x are: the decoder reads its encoding back. -/
theorem Entry.encoded_of_encode {α : Type} (e : Entry α) (wf : ∀ m x, e.instr.wf m x = true)
    (bytes : ∀ m x, encode m x e.instr = e.bytes) (cycles : baseCycles e.instr = e.cycles) : e.encoded := by
  refine ⟨fun m x => ⟨bytes m x, ?_⟩, cycles⟩
  have read := decode_encode m x e.instr (wf m x) []
  rwa [bytes, List.append_nil] at read

end Sys2Proof.Machine
end

section
/-! SUPPORT. How a register load ends once its datum is known, and a store once its effective address is (R121 to R128). -/

namespace Sys2Proof.Machine

/-- The end of an instruction that writes `w` bits to the register `reg`, which makes `u` of the state: N and Z are set from the
datum and the machine moves past the instruction. -/
theorem setNZ_completes {s u : State} {i : Instr} {w : Width} {v : Word} {reg : Part} (bound : v.toNat < 2 ^ bitsOf w)
    (only : onlyChanges [reg] s u) (keeps : reg ∉ endParts) (go : s.mayContinue i = true) :
    let t := (u.setNZ w v).advance (s.lengthOf i)
    complete (.ok t) = .next t ∧ flagsNZ w v.toNat t.ps ∧ passes i s t ∧
      onlyChanges [reg, .flagN, .flagZ, .pc, .pg] s t := by
  have keepsFlags : ∀ p ∈ endParts, p ∉ [Part.flagN, .flagZ] := by decide
  have keepsAll : ∀ p ∈ endParts, p ∉ [reg, .flagN, .flagZ] := fun p hp =>
    List.not_mem_cons_of_ne_of_not_mem (fun e => keeps (e ▸ hp)) (keepsFlags p hp)
  obtain ⟨done, passed, only'⟩ := advance_completes (only.append (setNZ_onlyChanges u w v)) keepsAll go
  exact ⟨done, withNZ_flagsNZ_of u.ps w v _ (lowBits_of_lt w v bound), passed, only'⟩

/-- A register merged with a datum of `w` bits receives it. -/
theorem mergeLow_receives_of_lt (w : Width) (old v : Word) (bound : v.toNat < 2 ^ bitsOf w) :
    receives w old (mergeLow w old v) v.toNat :=
  mergeLow_receives_of w old v _ (lowBits_of_lt w v bound)

/-- An instruction that stores the low `w` bits of `v` at the effective address of `o` and moves past itself (R122, R126 to
R128). -/
theorem store_completes {s : State} {i : Instr} {w : Width} {o : MemMode} {v : Word} {a : Addr}
    (run : exec i s = complete (s.ea o >>= fun b => s.storeData (s.lengthOf i) w b v >>= fun t =>
      pure (t.advance (s.lengthOf i))))
    (ea : s.ea o = .ok a) (wf : s.mem.wf = true) (store : s.canStore (s.lengthOf i) w a = true)
    (go : s.mayContinue i = true) :
    ∃ t, exec i s = .next t ∧ stores w a v.toNat s t ∧ passes i s t ∧ onlyChanges [.mem, .pc, .pg] s t := by
  obtain ⟨m, written, -, stored⟩ := s.storeData_ok _ w a v store wf
  obtain ⟨done, passed, only⟩ := advance_completes (i := i) (setMem_onlyChanges s m) (by decide) go
  refine ⟨(s.setMem m).advance (s.lengthOf i), ?_, stored, passed, only⟩
  rw [run, complete_bind_ok ea, complete_bind_ok written]
  exact done

end Sys2Proof.Machine
end

section
/-! SUPPORT. Proofs of the statements about loads and stores (40_load_store.md), and about the byte sequences that the spec
writes out. The namespace keeps the theorem `stores` apart from the definition of that name. -/

namespace Sys2Proof.Machine.LoadStore

/-- Settles O1: each byte sequence is the encoding of its instruction, which the decoder reads back with the bytes after it. -/
theorem specWordsDecode : Obligations.SpecWordsDecode :=
  ⟨decode_encode _ _ (.adc .a (.imm 0x1234)) rfl [], decode_encode _ _ (.adc .b (.imm 0x1234)) rfl [],
    decode_encode _ _ (.ldx (.imm 0x027F)) rfl [0x9A], decode_encode _ _ (.ldy (.imm 0)) rfl [],
    decode_encode _ _ (.ldm (.dir 0x10) 0xFF) rfl [], decode_encode _ _ (.bbs (.dir 0x20) 0x81 0x05) rfl [],
    decode_encode _ _ (.bra (.long 0x1000)) rfl [], decode_encode _ _ (.jsr (.abl 0x023000)) rfl [],
    decode_encode _ _ (.pea 0x1234) rfl [], decode_encode _ _ (.mvn 0x01 0x00) rfl [], decode_encode _ _ .xab rfl [],
    decode_encode _ _ (.rla 0x01) rfl [], decode_encode _ _ (.mpy (.mem (.srIndY 0x05))) rfl []⟩

/-- Settles O22: LDA, LDX and LDY differ in the register alone; LDT ends where the mode allows the new DT. -/
theorem loads : Obligations.Loads := by
  intro s o v imm
  refine ⟨?lda, ?ldx, ?ldy, ?encoded, ?ldt⟩
  case lda =>
    intro operand r go
    have bound := s.operand_lt _ _ _ operand
    obtain ⟨done, flags, passed, only⟩ := setNZ_completes bound (setAcc_onlyChanges s r s.mw v) (by simp [endParts]) go
    refine ⟨_, (complete_bind_ok operand _).trans done, ?_, flags, passed, only⟩
    rw [State.advance_acc, State.setNZ_acc, State.setAcc_acc]
    exact mergeLow_receives_of_lt _ _ _ bound
  case ldx =>
    intro operand go
    have bound := s.operand_lt _ _ _ operand
    obtain ⟨done, flags, passed, only⟩ := setNZ_completes bound (setX_onlyChanges s s.xw v) (by decide) go
    exact ⟨_, (complete_bind_ok operand _).trans done, mergeLow_receives_of_lt _ _ _ bound, flags, passed, only⟩
  case ldy =>
    intro operand go
    have bound := s.operand_lt _ _ _ operand
    obtain ⟨done, flags, passed, only⟩ := setNZ_completes bound (setY_onlyChanges s s.xw v) (by decide) go
    exact ⟨_, (complete_bind_ok operand _).trans done, mergeLow_receives_of_lt _ _ _ bound, flags, passed, only⟩
  case encoded => exact Entry.encoded_of_encode _ (fun _ _ => rfl) (fun _ _ => rfl) rfl
  case ldt =>
    intro go
    exact ⟨_, complete_ok _ go, rfl, State.advance_pcAddr _ _, (setDt_onlyChanges s imm).append (advance_onlyChanges _ 3)⟩

/-- Settles O23: each of the four stores its datum at the effective address and moves past itself. -/
theorem stores : Obligations.Stores := by
  intro s r o imm a ea wf
  simp only [List.forall_mem_cons, List.not_mem_nil, false_imp_iff, implies_true, and_true]
  exact ⟨store_completes rfl ea wf, store_completes rfl ea wf, store_completes rfl ea wf, store_completes rfl ea wf⟩

end Sys2Proof.Machine.LoadStore
end

/-! SUPPORT. What ADC, SBC, the compares and the logical operations compute, as numbers, and the parts of the state they write
(41_arith_logic.md). -/

namespace Sys2Proof.Machine

/-! Frames of the flags -/

theorem onlyChanges.mono {l k : List Part} {s t : State} (h : onlyChanges l s t) (sub : ∀ p ∈ l, p ∈ k) :
    onlyChanges k s t :=
  fun p hp => h p (mt (sub p) hp)

/-- `q` differs from `p` in N, V, Z and C alone. -/
def PS.onlyNVZC (p q : PS) : Prop := q = { p with n := q.n, v := q.v, z := q.z, c := q.c }

/-- `q` differs from `p` in N, Z and C alone. -/
def PS.onlyNZC (p q : PS) : Prop := q = { p with n := q.n, z := q.z, c := q.c }

theorem setPs_nvzc_onlyChanges {s : State} {q : PS} (h : s.ps.onlyNVZC q) :
    onlyChanges [.flagN, .flagV, .flagZ, .flagC] s (s.setPs q) := by
  rw [h]
  exact onlyChanges_of_parts _ _ _ fun p => by cases p <;> simp [Part.same]

theorem setPs_nzc_onlyChanges {s : State} {q : PS} (h : s.ps.onlyNZC q) :
    onlyChanges [.flagN, .flagZ, .flagC] s (s.setPs q) := by
  rw [h]
  exact onlyChanges_of_parts _ _ _ fun p => by cases p <;> simp [Part.same]

theorem drew_onlyChanges (s : State) : onlyChanges [.free] s s.drew :=
  onlyChanges_of_parts _ _ _ fun p => by cases p <;> simp [Part.same]

theorem setAcc_nvzc_onlyChanges {s : State} {r : Acc} {w : Width} {v : Word} {q : PS} (h : s.ps.onlyNVZC q) :
    onlyChanges [.acc r, .flagN, .flagV, .flagZ, .flagC] s ((s.setAcc r w v).setPs q) :=
  (setAcc_onlyChanges s r w v).append (setPs_nvzc_onlyChanges (by rwa [State.setAcc_ps]))

theorem setAcc_nzc_onlyChanges {s : State} {r : Acc} {w : Width} {v : Word} {q : PS} (h : s.ps.onlyNZC q) :
    onlyChanges [.acc r, .flagN, .flagZ, .flagC] s ((s.setAcc r w v).setPs q) :=
  (setAcc_onlyChanges s r w v).append (setPs_nzc_onlyChanges (by rwa [State.setAcc_ps]))

/-! The cases of ADC and SBC -/

theorem adc_binary {s : State} (r : Acc) (m : Word) (d : s.ps.d = false) :
    s.adc r m = (s.setAcc r s.mw (addResult s.mw (truncTo s.mw (s.acc r)) m s.ps.c)).setPs
      (s.ps.afterAdd s.mw (truncTo s.mw (s.acc r)) m) := by
  simp only [State.adc, d, Bool.not_false, if_true]

theorem sbc_binary {s : State} (r : Acc) (m : Word) (d : s.ps.d = false) :
    s.sbc r m = (s.setAcc r s.mw (subResult s.mw (truncTo s.mw (s.acc r)) m s.ps.c)).setPs
      (s.ps.afterSub s.mw (truncTo s.mw (s.acc r)) m) := by
  simp only [State.sbc, d, Bool.not_false, if_true]

theorem adc_decimal {s : State} {r : Acc} {m : Word} (d : s.ps.d = true)
    (valid : decimalValid s.mw (truncTo s.mw (s.acc r)) m = true) :
    s.adc r m = ((s.setAcc r s.mw (decimalAddResult s.mw (truncTo s.mw (s.acc r)) m s.ps.c)).setPs
      { s.ps.freeNVZ s.drawn with
        c := decide (10 ^ digitsOf s.mw ≤ decimalSum s.mw (truncTo s.mw (s.acc r)) m s.ps.c) }).drew := by
  simp [State.adc, d, valid]

theorem sbc_decimal {s : State} {r : Acc} {m : Word} (d : s.ps.d = true)
    (valid : decimalValid s.mw (truncTo s.mw (s.acc r)) m = true) :
    s.sbc r m = ((s.setAcc r s.mw (decimalSubResult s.mw (truncTo s.mw (s.acc r)) m s.ps.c)).setPs
      { s.ps.freeNV s.drawn with
        z := truncTo s.mw (decimalSubResult s.mw (truncTo s.mw (s.acc r)) m s.ps.c) == 0
        c := decide (0 ≤ decimalDifference s.mw (truncTo s.mw (s.acc r)) m s.ps.c) }).drew := by
  simp [State.sbc, d, valid]

/-- What ADC and SBC make of operands that are not packed decimal: the result and the four flags are free values (U3, U4). -/
def State.freeResult (s : State) (r : Acc) : State :=
  ((s.drew.setAcc r s.mw s.drew.drawn).setPs (s.ps.freeNVZC s.drawn)).drew

theorem adc_decimal_invalid {s : State} {r : Acc} {m : Word} (d : s.ps.d = true)
    (valid : ¬ decimalValid s.mw (truncTo s.mw (s.acc r)) m = true) : s.adc r m = s.freeResult r := by
  simp [State.adc, State.freeResult, d, valid]

theorem sbc_decimal_invalid {s : State} {r : Acc} {m : Word} (d : s.ps.d = true)
    (valid : ¬ decimalValid s.mw (truncTo s.mw (s.acc r)) m = true) : s.sbc r m = s.freeResult r := by
  simp [State.sbc, State.freeResult, d, valid]

theorem freeResult_onlyChanges (s : State) (r : Acc) :
    onlyChanges [.acc r, .flagN, .flagV, .flagZ, .flagC, .free] s (s.freeResult r) :=
  have result : onlyChanges [.acc r, .flagN, .flagV, .flagZ, .flagC] s.drew
      ((s.drew.setAcc r s.mw s.drew.drawn).setPs (s.ps.freeNVZC s.drawn)) := setAcc_nvzc_onlyChanges rfl
  (((drew_onlyChanges s).append result).append (drew_onlyChanges _)).mono (by simp)

theorem freeResult_acc (s : State) (r : Acc) : (s.freeResult r).acc r = mergeLow s.mw (s.acc r) s.drew.drawn := by
  simp [State.freeResult]

/-- The model's check of both operands, in the terms of the statements (R142, R144). -/
theorem decimalValid_iff (w : Width) (a m : Word) :
    decimalValid w (truncTo w a) m = true ↔
      bcdValid (digitsOf w) (lowBits w a) = true ∧ bcdValid (digitsOf w) m.toNat = true := by
  rw [decimalValid, Bool.and_eq_true, truncTo_toNat]

/-! Binary results and flags -/

theorem truncTo_lt (w : Width) (v : Word) : (truncTo w v).toNat < 2 ^ bitsOf w := by
  rw [truncTo_toNat]
  exact lowBits_lt w v

theorem subResult_toNat (w : Width) (a m : Word) (c : Bool) :
    ((subResult w a m c).toNat : Int) = differenceOf a m c % 2 ^ bitsOf w :=
  narrowInt_toNat w _

theorem lowBits_addResult (w : Width) (a m : Word) (c : Bool) : lowBits w (addResult w a m c) = sumOf a m c % 2 ^ bitsOf w :=
  lowBits_narrow w _

theorem lowBits_subResult (w : Width) (a m : Word) (c : Bool) :
    (lowBits w (subResult w a m c) : Int) = differenceOf a m c % 2 ^ bitsOf w := by
  rw [lowBits_of_lt w (subResult w a m c) (narrowInt_lt w _), subResult_toNat]

theorem narrowInt_sub_toNat (w : Width) (a m : Word) (ha : a.toNat < 2 ^ bitsOf w) (hm : m.toNat < 2 ^ bitsOf w) :
    (narrowInt w ((a.toNat : Int) - m.toNat)).toNat = (a.toNat + 2 ^ bitsOf w - m.toNat) % 2 ^ bitsOf w := by
  have e := narrowInt_toNat w ((a.toNat : Int) - m.toNat)
  cases w <;> simp only [bitsOf] at * <;> omega

/-- A number with the sign bit clear is its own signed value; with it set, `2^w` less (R7). -/
theorem signedOf_cases (w : Width) (n : Nat) :
    (n < 2 ^ (bitsOf w - 1) ∧ signedOf w n = n) ∨
      (2 ^ (bitsOf w - 1) ≤ n ∧ signedOf w n = (n : Int) - 2 ^ bitsOf w) := by
  rcases Nat.lt_or_ge n (2 ^ (bitsOf w - 1)) with h | h
  · exact .inl ⟨h, if_pos h⟩
  · exact .inr ⟨h, if_neg (Nat.not_lt.2 h)⟩

/-- V after ADC: operands of one sign whose sum has the other sign are those whose signed sum does not fit (R25, R141). -/
theorem afterAdd_v_iff (p : PS) (w : Width) (a m : Word) (ha : a.toNat < 2 ^ bitsOf w) (hm : m.toNat < 2 ^ bitsOf w) :
    (p.afterAdd w a m).v = true ↔ ¬ signedFits w (signedOf w a.toNat + signedOf w m.toNat + p.c.toNat) := by
  have carry := p.c.toNat_le
  have sum : (addResult w a m p.c).toNat = (a.toNat + m.toNat + p.c.toNat) % 2 ^ bitsOf w := narrow_toNat w _
  have bound := narrow_lt w (sumOf a m p.c)
  simp only [PS.afterAdd, Bool.and_eq_true, beq_iff_eq, bne_iff_ne, topBit_of_lt w a ha, topBit_of_lt w m hm,
    topBit_of_lt w (addResult w a m p.c) bound, sum, signedFits, decide_eq_decide, ne_eq]
  have signA := signedOf_cases w a.toNat
  have signM := signedOf_cases w m.toNat
  cases w <;> simp only [bitsOf] at * <;> omega

/-- V after SBC: operands of different signs whose difference has the sign of the operand subtracted are those whose signed
difference does not fit (R25, R143). -/
theorem afterSub_v_iff (p : PS) (w : Width) (a m : Word) (ha : a.toNat < 2 ^ bitsOf w) (hm : m.toNat < 2 ^ bitsOf w) :
    (p.afterSub w a m).v = true ↔
      ¬ signedFits w (signedOf w a.toNat - signedOf w m.toNat - (1 - (p.c.toNat : Int))) := by
  have carry := p.c.toNat_le
  have difference := subResult_toNat w a m p.c
  have bound := narrowInt_lt w (differenceOf a m p.c)
  simp only [PS.afterSub, Bool.and_eq_true, bne_iff_ne, topBit_of_lt w a ha, topBit_of_lt w m hm,
    topBit_of_lt w (subResult w a m p.c) bound, signedFits, decide_eq_decide, ne_eq]
  simp only [differenceOf] at difference
  have signA := signedOf_cases w a.toNat
  have signM := signedOf_cases w m.toNat
  cases w <;> simp only [bitsOf] at * <;> omega

/-! Packed decimal (R142) -/

theorem bcdValid_toBcd (k n : Nat) : bcdValid k (toBcd k n) = true := by
  induction k generalizing n with
  | zero => rfl
  | succ k ih =>
    have digit : (n % 10 + 16 * toBcd k (n / 10)) % 16 ≤ 9 := by omega
    have rest : (n % 10 + 16 * toBcd k (n / 10)) / 16 = toBcd k (n / 10) := by omega
    simp only [bcdValid, toBcd, rest, digit, ih, decide_true, Bool.and_self]

theorem bcdValue_toBcd (k n : Nat) : bcdValue k (toBcd k n) = n % 10 ^ k := by
  induction k generalizing n with
  | zero => simp [bcdValue, Nat.mod_one]
  | succ k ih =>
    have digit : (n % 10 + 16 * toBcd k (n / 10)) % 16 = n % 10 := by omega
    have rest : (n % 10 + 16 * toBcd k (n / 10)) / 16 = toBcd k (n / 10) := by omega
    rw [bcdValue, toBcd, digit, rest, ih, Nat.pow_succ', Nat.mod_mul]

theorem toBcd_lt (k n : Nat) : toBcd k n < 16 ^ k := by
  induction k generalizing n with
  | zero => simp [toBcd]
  | succ k ih =>
    have := ih (n / 10)
    rw [toBcd, Nat.pow_succ']
    omega

theorem bcdValue_lt (k n : Nat) (h : bcdValid k n = true) : bcdValue k n < 10 ^ k := by
  induction k generalizing n with
  | zero => simp [bcdValue]
  | succ k ih =>
    obtain ⟨digit, rest⟩ := Bool.and_eq_true _ _ ▸ h
    have := ih (n / 16) rest
    have := of_decide_eq_true digit
    rw [bcdValue, Nat.pow_succ']
    omega

/-- The packed decimal of as many digits as `w` holds fits in `w` bits. -/
theorem lowBits_toBcd (w : Width) (n : Nat) : lowBits w (BitVec.ofNat 16 (toBcd (digitsOf w) n)) = toBcd (digitsOf w) n := by
  have bound := toBcd_lt (digitsOf w) n
  rw [lowBits, BitVec.toNat_ofNat]
  cases w <;> simp only [digitsOf, bitsOf] at * <;> omega

/-- A number from `-d` to `d - 1`, narrowed to `0` to `d - 1` (R144). -/
theorem emod_of_within (i : Int) (d : Nat) (low : -(d : Int) ≤ i) (high : i < d) :
    i % d = if 0 ≤ i then i else i + d := by
  split
  · exact Int.emod_eq_of_lt ‹_› high
  · rw [← Int.add_emod_right]
    exact Int.emod_eq_of_lt (by omega) (by omega)

/-- The result of ADC on packed decimal operands: packed decimal again, of the sum narrowed to the digits (R142). -/
theorem decimalAddResult_packed (w : Width) (a m : Word) (c : Bool) :
    let n := lowBits w (decimalAddResult w a m c)
    bcdValid (digitsOf w) n = true ∧ bcdValue (digitsOf w) n = decimalSum w a m c % 10 ^ digitsOf w := by
  dsimp only
  rw [decimalAddResult, lowBits_toBcd, bcdValue_toBcd, Nat.mod_mod]
  exact ⟨bcdValid_toBcd _ _, rfl⟩

/-- The result of SBC on packed decimal operands: packed decimal again, of the difference, to which a borrow adds the next power
of ten (R144). -/
theorem decimalSubResult_packed (w : Width) (a m : Word) (c : Bool) (valid : decimalValid w a m = true) :
    let n := lowBits w (decimalSubResult w a m c)
    let d := decimalDifference w a m c
    bcdValid (digitsOf w) n = true ∧ (bcdValue (digitsOf w) n : Int) = if 0 ≤ d then d else d + 10 ^ digitsOf w := by
  obtain ⟨ha, hm⟩ := Bool.and_eq_true _ _ ▸ valid
  have ha := bcdValue_lt _ _ ha
  have hm := bcdValue_lt _ _ hm
  have carry := c.toNat_le
  obtain ⟨low, high⟩ : -((10 ^ digitsOf w : Nat) : Int) ≤ decimalDifference w a m c ∧
      decimalDifference w a m c < (10 ^ digitsOf w : Nat) := by
    rw [decimalDifference]
    omega
  dsimp only
  rw [decimalSubResult, lowBits_toBcd, bcdValue_toBcd]
  refine ⟨bcdValid_toBcd _ _, ?_⟩
  have narrowed := emod_of_within _ _ low high
  have nonneg : 0 ≤ decimalDifference w a m c % (10 ^ digitsOf w : Nat) := by
    rw [narrowed]
    split <;> omega
  rw [Int.natCast_emod, Int.toNat_of_nonneg nonneg, Int.emod_emod, narrowed]
  push_cast
  rfl

/-! Bitwise results -/

theorem lowBits_and (w : Width) (a m : Word) (hm : m.toNat < 2 ^ bitsOf w) : lowBits w (a &&& m) = lowBits w a &&& m.toNat := by
  rw [lowBits, BitVec.toNat_and, Nat.and_mod_two_pow, Nat.mod_eq_of_lt hm, lowBits]

theorem lowBits_or (w : Width) (a m : Word) (hm : m.toNat < 2 ^ bitsOf w) : lowBits w (a ||| m) = lowBits w a ||| m.toNat := by
  rw [lowBits, BitVec.toNat_or, Nat.or_mod_two_pow, Nat.mod_eq_of_lt hm, lowBits]

theorem lowBits_xor (w : Width) (a m : Word) (hm : m.toNat < 2 ^ bitsOf w) : lowBits w (a ^^^ m) = lowBits w a ^^^ m.toNat := by
  rw [lowBits, BitVec.toNat_xor, Nat.xor_mod_two_pow, Nat.mod_eq_of_lt hm, lowBits]

end Sys2Proof.Machine

/-! SUPPORT. How the instructions of 41_arith_logic.md end once their operand is known: result, flags, frame and the address
after the instruction. -/

namespace Sys2Proof.Machine

theorem exec_adc {s : State} {o : Operand} {v : Word} (r : Acc) (operand : s.operand s.mw o = .ok v) :
    exec (.adc r o) s = complete (.ok ((s.adc r v).advance (s.lengthOf (.adc r o)))) :=
  complete_bind_ok operand _

theorem exec_sbc {s : State} {o : Operand} {v : Word} (r : Acc) (operand : s.operand s.mw o = .ok v) :
    exec (.sbc r o) s = complete (.ok ((s.sbc r v).advance (s.lengthOf (.sbc r o)))) :=
  complete_bind_ok operand _

/-- An effect on an accumulator and on N, V, Z, C, after which the machine moves past the instruction. -/
theorem accumulator_completes {s : State} {i : Instr} {r : Acc} {v : Word} {q : PS}
    (flags : s.ps.onlyNVZC q) (go : s.mayContinue i = true) :
    let t := ((s.setAcc r s.mw v).setPs q).advance (s.lengthOf i)
    complete (.ok t) = .next t ∧ receives s.mw (s.acc r) (t.acc r) (lowBits s.mw v) ∧ passes i s t ∧
      onlyChanges [.acc r, .flagN, .flagV, .flagZ, .flagC, .pc, .pg] s t := by
  obtain ⟨done, passed, only⟩ :=
    advance_completes (setAcc_nvzc_onlyChanges (r := r) (w := s.mw) (v := v) flags) (by simp [endParts]) go
  refine ⟨done, ?_, passed, only⟩
  rw [State.advance_acc, State.setPs_acc, State.setAcc_acc]
  exact mergeLow_receives _ _ _

/-- A decimal effect `u`, which draws free values, after which the machine moves past the instruction (R142, R144). -/
theorem decimal_completes {s u : State} {i : Instr} {r : Acc} {v : Word}
    (only : onlyChanges [.acc r, .flagN, .flagV, .flagZ, .flagC, .free] s u) (acc : u.acc r = mergeLow s.mw (s.acc r) v)
    (go : s.mayContinue i = true) :
    let t := u.advance (s.lengthOf i)
    complete (.ok t) = .next t ∧ receives s.mw (s.acc r) (t.acc r) (lowBits s.mw v) ∧ passes i s t ∧
      onlyChanges [.acc r, .flagN, .flagV, .flagZ, .flagC, .pc, .pg, .free] s t := by
  obtain ⟨done, passed, only'⟩ := advance_completes only (by simp [endParts]) go
  refine ⟨done, ?_, passed, only'.mono (by simp)⟩
  rw [State.advance_acc, acc]
  exact mergeLow_receives _ _ _

/-- A decimal result: an accumulator and N, V, Z, C are written and one free value is drawn. -/
theorem decimalResult_completes {s : State} {i : Instr} {r : Acc} {v : Word} {q : PS}
    (flags : s.ps.onlyNVZC q) (go : s.mayContinue i = true) :
    let t := ((s.setAcc r s.mw v).setPs q).drew.advance (s.lengthOf i)
    complete (.ok t) = .next t ∧ receives s.mw (s.acc r) (t.acc r) (lowBits s.mw v) ∧ passes i s t ∧
      onlyChanges [.acc r, .flagN, .flagV, .flagZ, .flagC, .pc, .pg, .free] s t :=
  decimal_completes ((setAcc_nvzc_onlyChanges flags).append (drew_onlyChanges _)) (by simp) go

/-- Operands that are not packed decimal: everything but the result and the flags is as after packed decimal ones. -/
theorem freeResult_completes {s : State} {i : Instr} (r : Acc) (go : s.mayContinue i = true) :
    let t := (s.freeResult r).advance (s.lengthOf i)
    complete (.ok t) = .next t ∧ receives s.mw (s.acc r) (t.acc r) (lowBits s.mw s.drew.drawn) ∧ passes i s t ∧
      onlyChanges [.acc r, .flagN, .flagV, .flagZ, .flagC, .pc, .pg, .free] s t :=
  decimal_completes (freeResult_onlyChanges s r) (freeResult_acc s r) go

/-- A compare of the low `w` bits of `reg` with an operand (R145 to R147). -/
theorem compare_completes {s : State} {i : Instr} {w : Width} {reg : Word} {o : Operand} {v : Word}
    (run : exec i s = complete (s.operand w o >>= fun m =>
      pure ((s.setPs (s.ps.afterCompare w (truncTo w reg) m)).advance (s.lengthOf i))))
    (operand : s.operand w o = .ok v) (go : s.mayContinue i = true) :
    ∃ t, exec i s = .next t ∧ flagsNZ w ((lowBits w reg + 2 ^ bitsOf w - v.toNat) % 2 ^ bitsOf w) t.ps ∧
      t.ps.c = decide (v.toNat ≤ lowBits w reg) ∧ passes i s t ∧
      onlyChanges [.flagN, .flagZ, .flagC, .pc, .pg] s t := by
  have bound := s.operand_lt w o v operand
  obtain ⟨done, passed, only⟩ := advance_completes (i := i)
    (setPs_nzc_onlyChanges (s := s) (q := s.ps.afterCompare w (truncTo w reg) v) rfl) (by decide) go
  rw [← truncTo_toNat]
  refine ⟨_, (run.trans (complete_bind_ok operand _)).trans done, ?_, ?_, passed, only⟩
  · refine withNZ_flagsNZ_of s.ps w _ _ ?_
    rw [lowBits_of_lt _ _ (narrowInt_lt _ _), narrowInt_sub_toNat _ _ _ (truncTo_lt _ _) bound]
  · exact decide_eq_decide.2 (by omega)

/-- A logical operation whose result, over the width, is `n` (R148 to R150). -/
theorem logic_completes {s : State} {i : Instr} {r : Acc} {o : Operand} {v : Word} {f : Word → Word → Word} {n : Nat}
    (run : exec i s = complete (s.operand s.mw o >>= fun m =>
      pure (((s.setAcc r s.mw (f (s.acc r) m)).setNZ s.mw (f (s.acc r) m)).advance (s.lengthOf i))))
    (operand : s.operand s.mw o = .ok v) (value : lowBits s.mw (f (s.acc r) v) = n) (go : s.mayContinue i = true) :
    ∃ t, exec i s = .next t ∧ receives s.mw (s.acc r) (t.acc r) n ∧ flagsNZ s.mw n t.ps ∧ passes i s t ∧
      onlyChanges [.acc r, .flagN, .flagZ, .pc, .pg] s t := by
  obtain ⟨done, passed, only⟩ := advance_completes (i := i)
    ((setAcc_onlyChanges s r s.mw (f (s.acc r) v)).append (setNZ_onlyChanges _ s.mw (f (s.acc r) v)))
    (by simp [endParts]) go
  refine ⟨_, (run.trans (complete_bind_ok operand _)).trans done, ?_, withNZ_flagsNZ_of _ _ _ _ value, passed, only⟩
  rw [State.advance_acc, State.setNZ_acc, State.setAcc_acc]
  exact mergeLow_receives_of _ _ _ _ value

/-- A read-modify-write of an accumulator that writes N, Z, C and no other flag (R152, R180). -/
theorem modification_completes {s : State} {i : Instr} {r : Acc} {f : Word → Word} {q : Word → PS}
    (run : exec i s = readModifyWrite f q (.acc r) s) (length : s.lengthOf i = (Dest.acc r).length)
    (flags : s.ps.onlyNZC (q (truncTo s.mw (s.acc r)))) (go : s.mayContinue i = true) :
    let v := truncTo s.mw (s.acc r)
    let t := ((s.setAcc r s.mw (f v)).setPs (q v)).advance (s.lengthOf i)
    exec i s = .next t ∧ receives s.mw (s.acc r) (t.acc r) (lowBits s.mw (f v)) ∧ t.ps = q v ∧ passes i s t ∧
      onlyChanges [.acc r, .flagN, .flagZ, .flagC, .pc, .pg] s t := by
  obtain ⟨done, passed, only⟩ := advance_completes
    (setAcc_nzc_onlyChanges (r := r) (w := s.mw) (v := f (truncTo s.mw (s.acc r))) flags) (by simp [endParts]) go
  refine ⟨(run.trans ?_).trans done, ?_, rfl, passed, only⟩
  · rw [length]
    rfl
  · rw [State.advance_acc, State.setPs_acc, State.setAcc_acc]
    exact mergeLow_receives _ _ _

/-- One of INX, DEX, INY, DEY, which writes `v` to the register `reg`, read by `get`, and makes `u` of the state (R154 to
R157). -/
theorem count_completes {s u : State} {i : Instr} {v : Word} {n : Nat} {reg : Part} {get : State → Word}
    (run : exec i s = complete (.ok ((u.setNZ s.xw v).advance (s.lengthOf i))))
    (written : get ((u.setNZ s.xw v).advance (s.lengthOf i)) = mergeLow s.xw (get s) v) (only : onlyChanges [reg] s u)
    (keeps : reg ∉ endParts) (bound : v.toNat < 2 ^ bitsOf s.xw) (value : v.toNat = n) (go : s.mayContinue i = true) :
    ∃ t, exec i s = .next t ∧ receives s.xw (get s) (get t) n ∧ flagsNZ s.xw n t.ps ∧ passes i s t ∧
      onlyChanges [reg, .flagN, .flagZ, .pc, .pg] s t := by
  obtain ⟨done, flags, passed, only⟩ := setNZ_completes bound only keeps go
  rw [← value]
  refine ⟨_, run.trans done, ?_, flags, passed, only⟩
  rw [written]
  exact mergeLow_receives_of_lt _ _ _ bound

theorem narrow_count_toNat (w : Width) (v : Word) :
    (narrow w ((truncTo w v).toNat + 1)).toNat = (lowBits w v + 1) % 2 ^ bitsOf w := by
  rw [narrow_toNat, truncTo_toNat]

theorem narrowInt_count_toNat (w : Width) (v : Word) :
    (narrowInt w (((truncTo w v).toNat : Int) - 1)).toNat = (lowBits w v + 2 ^ bitsOf w - 1) % 2 ^ bitsOf w := by
  rw [narrowInt_pred_toNat w _ (truncTo_lt w v), truncTo_toNat]

end Sys2Proof.Machine

/-! SUPPORT. Proofs of the statements about arithmetic and logic (41_arith_logic.md). The namespace keeps the theorem `logic`
apart from the definition of that name. -/

namespace Sys2Proof.Machine.ArithLogic

/-- Settles O24: in binary mode the effect is `addResult` with `afterAdd`. -/
theorem adcBinary : Obligations.AdcBinary := by
  intro s r o v operand d go
  have bound := s.operand_lt _ _ _ operand
  obtain ⟨done, received, passed, only⟩ := accumulator_completes (i := .adc r o) (r := r)
    (v := addResult s.mw (truncTo s.mw (s.acc r)) v s.ps.c) (q := s.ps.afterAdd s.mw (truncTo s.mw (s.acc r)) v) rfl go
  rw [exec_adc r operand, adc_binary r v d, ← truncTo_toNat]
  have value := lowBits_addResult s.mw (truncTo s.mw (s.acc r)) v s.ps.c
  exact ⟨_, done, value ▸ received, withNZ_flagsNZ_of s.ps _ _ _ value, rfl,
    afterAdd_v_iff s.ps s.mw _ v (truncTo_lt _ _) bound, passed, only⟩

/-- Settles O25: packed decimal operands take the decimal sum, others a free result. -/
theorem adcDecimal : Obligations.AdcDecimal := by
  intro s r o v operand d go
  rw [exec_adc r operand]
  by_cases valid : decimalValid s.mw (truncTo s.mw (s.acc r)) v = true
  · obtain ⟨done, received, passed, only⟩ := decimalResult_completes (r := r)
      (v := decimalAddResult s.mw (truncTo s.mw (s.acc r)) v s.ps.c)
      (q := { s.ps.freeNVZ s.drawn with
        c := decide (10 ^ digitsOf s.mw ≤ decimalSum s.mw (truncTo s.mw (s.acc r)) v s.ps.c) }) rfl go
    obtain ⟨packed, value⟩ := decimalAddResult_packed s.mw (truncTo s.mw (s.acc r)) v s.ps.c
    rw [adc_decimal d valid, ← truncTo_toNat]
    exact ⟨_, _, done, received, fun _ _ => ⟨packed, value, rfl⟩, passed, only⟩
  · obtain ⟨done, received, passed, only⟩ := freeResult_completes r go
    rw [adc_decimal_invalid d valid]
    exact ⟨_, _, done, received, fun ha hm => absurd ((decimalValid_iff _ _ _).2 ⟨ha, hm⟩) valid, passed, only⟩

/-- Settles O26: in binary mode the effect is `subResult` with `afterSub`. -/
theorem sbcBinary : Obligations.SbcBinary := by
  intro s r o v operand d go
  have bound := s.operand_lt _ _ _ operand
  obtain ⟨done, received, passed, only⟩ := accumulator_completes (i := .sbc r o) (r := r)
    (v := subResult s.mw (truncTo s.mw (s.acc r)) v s.ps.c) (q := s.ps.afterSub s.mw (truncTo s.mw (s.acc r)) v) rfl go
  rw [exec_sbc r operand, sbc_binary r v d, ← truncTo_toNat]
  exact ⟨_, _, done, received, lowBits_subResult _ _ _ _, withNZ_flagsNZ s.ps _ _, rfl,
    afterSub_v_iff s.ps s.mw _ v (truncTo_lt _ _) bound, passed, only⟩

/-- Settles O27: packed decimal operands take the decimal difference, others a free result. -/
theorem sbcDecimal : Obligations.SbcDecimal := by
  intro s r o v operand d go
  rw [exec_sbc r operand]
  by_cases valid : decimalValid s.mw (truncTo s.mw (s.acc r)) v = true
  · obtain ⟨done, received, passed, only⟩ := decimalResult_completes (r := r)
      (v := decimalSubResult s.mw (truncTo s.mw (s.acc r)) v s.ps.c)
      (q := { s.ps.freeNV s.drawn with
        z := truncTo s.mw (decimalSubResult s.mw (truncTo s.mw (s.acc r)) v s.ps.c) == 0
        c := decide (0 ≤ decimalDifference s.mw (truncTo s.mw (s.acc r)) v s.ps.c) }) rfl go
    obtain ⟨packed, value⟩ := decimalSubResult_packed s.mw (truncTo s.mw (s.acc r)) v s.ps.c valid
    rw [sbc_decimal d valid, ← truncTo_toNat]
    exact ⟨_, _, done, received, fun _ _ => ⟨packed, value, rfl, (withNZ_flagsNZ s.ps _ _).2⟩, passed, only⟩
  · obtain ⟨done, received, passed, only⟩ := freeResult_completes r go
    rw [sbc_decimal_invalid d valid]
    exact ⟨_, _, done, received, fun ha hm => absurd ((decimalValid_iff _ _ _).2 ⟨ha, hm⟩) valid, passed, only⟩

/-- Settles O28: the three differ in the register and its width alone. -/
theorem compares : Obligations.Compares := by
  intro s r o v
  simp only [List.forall_mem_cons, List.not_mem_nil, false_imp_iff, implies_true, and_true]
  exact ⟨compare_completes rfl, compare_completes rfl, compare_completes rfl⟩

/-- Settles O29: each bitwise operation acts on the low bits as it does on the whole word. -/
theorem logic : Obligations.Logic := by
  intro s r o v operand
  have bound := s.operand_lt _ _ _ operand
  simp only [List.forall_mem_cons, List.not_mem_nil, false_imp_iff, implies_true, and_true]
  exact ⟨logic_completes rfl operand (lowBits_and _ _ _ bound), logic_completes rfl operand (lowBits_or _ _ _ bound),
    logic_completes rfl operand (lowBits_xor _ _ _ bound)⟩

/-- Settles O30: each of the six is a read-modify-write with the spec's result and flags. -/
theorem modifyAccumulator : Obligations.ModifyAccumulator := by
  intro s r p hp go
  obtain ⟨f, q, hm⟩ := modifications_modify s p hp
  have bound := truncTo_lt s.mw (s.acc r)
  have flags := hm.ps _ bound
  obtain ⟨done, received, ps, passed, only⟩ :=
    modification_completes (hm.exec _) (hm.length _) (by rw [flags]; rfl) go
  have value : lowBits s.mw (f (truncTo s.mw (s.acc r))) = p.result (truncTo s.mw (s.acc r)).toNat :=
    (lowBits_of_lt _ _ (hm.bound _)).trans (hm.result _ bound)
  refine ⟨_, done, ?_⟩
  rw [← truncTo_toNat, ps.trans flags]
  exact ⟨value ▸ received, withNZ_flagsNZ_of s.ps _ _ _ value, rfl, passed, only⟩

/-- Settles O32: all four count over the width of x; INX and INY wrap as `narrow`, DEX and DEY as `narrowInt`. -/
theorem countIndex : Obligations.CountIndex := by
  intro s
  simp only [List.forall_mem_cons, List.not_mem_nil, false_imp_iff, implies_true, and_true]
  refine ⟨⟨⟨?_, ?inx⟩, ?_, ?dex⟩, ⟨?_, ?iny⟩, ?_, ?dey⟩
  case inx =>
    exact count_completes (get := State.x) rfl rfl (setX_onlyChanges s _ _) (by decide) (narrow_lt _ _)
      (narrow_count_toNat _ _)
  case dex =>
    exact count_completes (get := State.x) rfl rfl (setX_onlyChanges s _ _) (by decide) (narrowInt_lt _ _)
      (narrowInt_count_toNat _ _)
  case iny =>
    exact count_completes (get := State.y) rfl rfl (setY_onlyChanges s _ _) (by decide) (narrow_lt _ _)
      (narrow_count_toNat _ _)
  case dey =>
    exact count_completes (get := State.y) rfl rfl (setY_onlyChanges s _ _) (by decide) (narrowInt_lt _ _)
      (narrowInt_count_toNat _ _)
  all_goals exact Entry.encoded_of_encode _ (fun _ _ => rfl) (fun _ _ => rfl) rfl

end Sys2Proof.Machine.ArithLogic

/-! SUPPORT. The bits of a rotated number and of a register that receives a value (R11, R185). -/

namespace Sys2Proof.Machine

theorem bitsOf_pos (w : Width) : 0 < bitsOf w := by cases w <;> decide

/-- A bit below the width of a value is a bit of the word. -/
theorem lowBits_testBit {w : Width} {j : Nat} (v : Word) (low : j < bitsOf w) : (lowBits w v).testBit j = v.getLsbD j := by
  rw [lowBits, Nat.testBit_mod_two_pow, decide_eq_true low, Bool.true_and, BitVec.getLsbD]

/-- A register that receives `n`, bit by bit. -/
theorem receives.getLsbD {w : Width} {old new : Word} {n : Nat} (h : receives w old new n) (j : Nat) :
    new.getLsbD j = if j < bitsOf w then n.testBit j else old.getLsbD j := by
  obtain ⟨bound, value⟩ := h
  rw [BitVec.getLsbD, value, Nat.mul_comm, Nat.testBit_two_pow_mul_add _ bound]
  split
  · rfl
  · rw [Nat.testBit_div_two_pow, Nat.sub_add_cancel (Nat.le_of_not_lt ‹_›), BitVec.getLsbD]

/-- Rotating `w` bits by `k`: the bits below `w - k` move up, and the top `k` bits come in below them. -/
theorem testBit_rotate {v w k j : Nat} (bound : v < 2 ^ w) (hk : k < w) (hj : j < w) :
    ((v * 2 ^ k + v / 2 ^ (w - k)) % 2 ^ w).testBit ((j + k) % w) = v.testBit j := by
  have wrapped : v / 2 ^ (w - k) < 2 ^ k := by
    rw [Nat.div_lt_iff_lt_mul (Nat.two_pow_pos _), ← Nat.pow_add, Nat.add_sub_cancel' hk.le]
    exact bound
  rw [Nat.testBit_mod_two_pow, decide_eq_true (Nat.mod_lt _ (Nat.zero_lt_of_lt hj)), Bool.true_and, Nat.mul_comm,
    Nat.testBit_two_pow_mul_add _ wrapped]
  obtain stays | wraps := Nat.lt_or_ge (j + k) w
  · rw [Nat.mod_eq_of_lt stays, if_neg (by omega), Nat.add_sub_cancel]
  · have position : (j + k) % w = j + k - w := by
      rw [Nat.mod_eq_sub_mod wraps, Nat.mod_eq_of_lt (by omega)]
    rw [position, if_pos (by omega), Nat.testBit_div_two_pow]
    congr 1
    omega

/-- Bit `j` of the rotated value stands at `j + n` modulo the width, for every count `n` (R185). -/
theorem rotateLeft_testBit {w : Width} {j : Nat} (v : Word) (n : Nat) (low : j < bitsOf w) :
    (lowBits w (rotateLeft w (truncTo w v) n)).testBit ((j + n) % bitsOf w) = v.getLsbD j := by
  rw [rotateLeft, lowBits_narrow, truncTo_toNat, ← Nat.add_mod_mod j n,
    testBit_rotate (lowBits_lt w v) (Nat.mod_lt _ (bitsOf_pos w)) low, lowBits_testBit v low]

end Sys2Proof.Machine

/-! SUPPORT. Proof of the statement about RLA (42_shift_rotate.md). The namespace keeps the theorem `rotateLeft` apart from the
definition of that name. -/

namespace Sys2Proof.Machine.ShiftRotate

/-- Settles O33: A receives the rotated value, so its low bits are the rotation's and the others its own. -/
theorem rotateLeft : Obligations.RotateLeft := by
  intro s imm go
  have bits := (mergeLow_receives s.mw s.a
    (Machine.rotateLeft s.mw (truncTo s.mw s.a) (truncTo s.mw imm).toNat)).getLsbD
  obtain ⟨done, passed, only⟩ := advance_completes (setAcc_onlyChanges s .a s.mw _) (by decide) go
  refine ⟨_, done, fun j low => (bits _).trans ?rotated, fun j high => (bits j).trans ?kept, passed, only⟩
  case rotated =>
    rw [if_pos (Nat.mod_lt _ (bitsOf_pos s.mw)), ← truncTo_toNat s.mw imm, rotateLeft_testBit _ _ low]
  case kept => rw [if_neg (Nat.not_lt.2 high)]

end Sys2Proof.Machine.ShiftRotate

/-! SUPPORT. What MPY and DIV compute, as numbers, the parts of the state they write, and how an instruction ends that writes
the pair B, A (43_muldiv.md). -/

namespace Sys2Proof.Machine

/-! The pair B, A -/

theorem setAccPair_onlyChanges (s : State) (w : Width) (a b : Word) :
    onlyChanges [.acc .a, .acc .b] s ((s.setAcc .a w a).setAcc .b w b) :=
  (setAcc_onlyChanges s .a w a).append (setAcc_onlyChanges _ .b w b)

/-- An effect `u` that writes `a` to A and `b` to B, over the width of m, after which the machine moves past the instruction. -/
theorem pair_completes {l : List Part} {s u : State} {i : Instr} {a b : Word} (only : onlyChanges l s u)
    (keeps : ∀ p ∈ endParts, p ∉ l) (accA : u.a = mergeLow s.mw s.a a) (accB : u.b = mergeLow s.mw s.b b)
    (go : s.mayContinue i = true) :
    let t := u.advance (s.lengthOf i)
    complete (.ok t) = .next t ∧ receives s.mw s.a t.a (lowBits s.mw a) ∧ receives s.mw s.b t.b (lowBits s.mw b) ∧
      passes i s t ∧ onlyChanges (l ++ [.pc, .pg]) s t := by
  obtain ⟨done, passed, only'⟩ := advance_completes only keeps go
  refine ⟨done, ?_, ?_, passed, only'⟩
  · rw [State.advance_a, accA]
    exact mergeLow_receives _ _ _
  · rw [State.advance_b, accB]
    exact mergeLow_receives _ _ _

/-! MPY -/

theorem exec_mpy {s : State} {o : Operand} {v : Word} (operand : s.operand s.mw o = .ok v) :
    exec (.mpy o) s = complete (.ok ((s.multiply v).advance (s.lengthOf (.mpy o)))) :=
  complete_bind_ok operand _

theorem afterMultiply_onlyNZC (p : PS) (w : Width) (a m f : Word) : p.onlyNZC (p.afterMultiply w a m f) := rfl

theorem multiply_onlyChanges (s : State) (m : Word) :
    onlyChanges [.acc .a, .acc .b, .flagN, .flagZ, .flagC, .free] s (s.multiply m) :=
  ((setAccPair_onlyChanges s s.mw _ _).append (setPs_nzc_onlyChanges (afterMultiply_onlyNZC s.ps _ _ _ _))).append
    (drew_onlyChanges _)

theorem productOf_lt {w : Width} {a m : Word} (ha : a.toNat < 2 ^ bitsOf w) (hm : m.toNat < 2 ^ bitsOf w) :
    productOf a m < 2 ^ (2 * bitsOf w) := by
  rw [Nat.two_mul, Nat.pow_add]
  exact Nat.mul_lt_mul'' ha hm

/-- The upper half of the product fits the width, so that B receives all of it. -/
theorem lowBits_upperProduct {w : Width} {a m : Word} (ha : a.toNat < 2 ^ bitsOf w) (hm : m.toNat < 2 ^ bitsOf w) :
    lowBits w (narrow w (productOf a m / 2 ^ bitsOf w)) = productOf a m / 2 ^ bitsOf w := by
  rw [lowBits_narrow, Nat.mod_eq_of_lt]
  exact Nat.div_lt_of_lt_mul (Nat.mul_lt_mul'' ha hm)

/-- The top bit of a number of `k + 1` bits says that it is at least `2 ^ k`. -/
theorem testBit_top {n k : Nat} (bound : n < 2 ^ (k + 1)) : n.testBit k = decide (2 ^ k ≤ n) := by
  obtain below | above := Nat.lt_or_ge n (2 ^ k)
  · rw [Nat.testBit_lt_two_pow below, decide_eq_false (Nat.not_le.2 below)]
  · rw [Nat.testBit_of_two_pow_le_and_two_pow_add_one_gt above bound, decide_eq_true above]

theorem afterMultiply_n (p : PS) {w : Width} {a m : Word} (f : Word) (ha : a.toNat < 2 ^ bitsOf w)
    (hm : m.toNat < 2 ^ bitsOf w) :
    (p.afterMultiply w a m f).n = decide (2 ^ (2 * bitsOf w - 1) ≤ productOf a m) := by
  have width : 2 * bitsOf w - 1 + 1 = 2 * bitsOf w := by have := bitsOf_pos w; omega
  exact testBit_top (width ▸ productOf_lt ha hm)

theorem afterMultiply_z (p : PS) (w : Width) (a m f : Word) :
    (p.afterMultiply w a m f).z = decide (productOf a m = 0) := rfl

/-! DIV -/

theorem exec_div {s : State} {o : Operand} {v : Word} (operand : s.operand s.mw o = .ok v) (divisor : v ≠ 0) :
    exec (.div o) s = complete (.ok ((s.divide v).advance (s.lengthOf (.div o)))) :=
  (complete_bind_ok operand _).trans (congrArg complete (if_neg divisor))

theorem exec_div_zero {s : State} {o : Operand} (operand : s.operand s.mw o = .ok 0) :
    exec (.div o) s = .refused .divideByZero :=
  complete_bind_ok operand _

/-- What every division does first: N, V, Z, C take a free value. -/
def State.freedFlags (s : State) : State := (s.setPs (s.ps.freeNVZC s.drawn)).drew

theorem freeNVZC_onlyNVZC (p : PS) (f : Word) : p.onlyNVZC (p.freeNVZC f) := rfl

theorem freedFlags_onlyChanges (s : State) : onlyChanges [.flagN, .flagV, .flagZ, .flagC, .free] s s.freedFlags :=
  (setPs_nvzc_onlyChanges (freeNVZC_onlyNVZC _ _)).append (drew_onlyChanges _)

/-- The numerator of `State.divide`, B : A over the width of m. -/
def State.dividend (s : State) : Nat := dividendOf s.mw (truncTo s.mw s.b) (truncTo s.mw s.a)

theorem State.dividend_eq (s : State) : s.dividend = lowBits s.mw s.b * 2 ^ bitsOf s.mw + lowBits s.mw s.a := by
  rw [State.dividend, dividendOf, truncTo_toNat, truncTo_toNat]

theorem divide_of_fits {s : State} {m : Word} (fits : s.dividend / m.toNat < 2 ^ bitsOf s.mw) :
    s.divide m = (s.freedFlags.setAcc .a s.mw (narrow s.mw (s.dividend / m.toNat))).setAcc .b s.mw
      (narrow s.mw (s.dividend % m.toNat)) :=
  if_pos fits

theorem divide_of_not_fits {s : State} {m : Word} (beyond : ¬ s.dividend / m.toNat < 2 ^ bitsOf s.mw) :
    s.divide m = ((s.freedFlags.setAcc .a s.mw s.freedFlags.drawn).setAcc .b s.mw s.freedFlags.drew.drawn).drew.drew :=
  if_neg beyond

/-- The parts that both cases of a division write: the flags freed, then the pair. -/
theorem freedPair_onlyChanges (s : State) (w : Width) (a b : Word) :
    onlyChanges [.acc .a, .acc .b, .flagN, .flagV, .flagZ, .flagC, .free] s
      ((s.freedFlags.setAcc .a w a).setAcc .b w b) :=
  ((freedFlags_onlyChanges s).append (setAccPair_onlyChanges _ w a b)).mono (by simp)

/-- The values that DIV writes to A and B: where the quotient fits, the quotient and the remainder (R192). -/
theorem divide_pair (s : State) (m : Word) :
    ∃ a b : Word, (s.divide m).a = mergeLow s.mw s.a a ∧ (s.divide m).b = mergeLow s.mw s.b b ∧
      (s.dividend / m.toNat < 2 ^ bitsOf s.mw →
        a = narrow s.mw (s.dividend / m.toNat) ∧ b = narrow s.mw (s.dividend % m.toNat)) := by
  by_cases fits : s.dividend / m.toNat < 2 ^ bitsOf s.mw
  · rw [divide_of_fits fits]
    exact ⟨_, _, rfl, rfl, fun _ => ⟨rfl, rfl⟩⟩
  · rw [divide_of_not_fits fits]
    exact ⟨_, _, rfl, rfl, fun fits' => absurd fits' fits⟩

theorem divide_onlyChanges (s : State) (m : Word) :
    onlyChanges [.acc .a, .acc .b, .flagN, .flagV, .flagZ, .flagC, .free] s (s.divide m) := by
  by_cases fits : s.dividend / m.toNat < 2 ^ bitsOf s.mw
  · rw [divide_of_fits fits]
    exact freedPair_onlyChanges s _ _ _
  · rw [divide_of_not_fits fits]
    have drawn := (drew_onlyChanges _).append
      (drew_onlyChanges ((s.freedFlags.setAcc .a s.mw s.freedFlags.drawn).setAcc .b s.mw s.freedFlags.drew.drawn).drew)
    exact ((freedPair_onlyChanges s _ _ _).append drawn).mono (by simp)

/-- A quotient that fits the width and its remainder are kept whole, and they divide as division with remainder says. -/
theorem lowBits_quotient_remainder {w : Width} {n d : Nat} (positive : 0 < d) (bound : d < 2 ^ bitsOf w)
    (fits : n / d < 2 ^ bitsOf w) :
    lowBits w (narrow w (n / d)) * d + lowBits w (narrow w (n % d)) = n ∧ lowBits w (narrow w (n % d)) < d := by
  have remainder : n % d < d := Nat.mod_lt n positive
  rw [lowBits_narrow, lowBits_narrow, Nat.mod_eq_of_lt fits, Nat.mod_eq_of_lt (remainder.trans bound)]
  exact ⟨Nat.div_add_mod' n d, remainder⟩

end Sys2Proof.Machine

/-! SUPPORT. Proofs of the statements about MPY and DIV (43_muldiv.md). -/

namespace Sys2Proof.Machine.MulDiv

/-- Settles O34: the product has at most twice the width, so A and B hold its halves and its top bit is N. -/
theorem multiply : Obligations.Multiply := by
  intro s o v operand go
  have bound := s.operand_lt _ _ _ operand
  have accBound := truncTo_lt s.mw s.a
  obtain ⟨done, lower, upper, passed, only⟩ :=
    pair_completes (multiply_onlyChanges s v) (by decide) rfl rfl go
  rw [lowBits_narrow] at lower
  rw [lowBits_upperProduct accBound bound] at upper
  rw [exec_mpy operand, ← truncTo_toNat]
  exact ⟨_, done, lower, upper, afterMultiply_n s.ps s.drawn accBound bound, afterMultiply_z s.ps _ _ _ s.drawn, passed,
    only.mono (by simp)⟩

/-- Settles O35: the quotient and the remainder of a division that fits are within the width; the values of one that does not
are free. -/
theorem divide : Obligations.Divide := by
  intro s o v operand
  refine ⟨?zero, ?nonzero⟩
  case zero =>
    rintro rfl
    exact exec_div_zero operand
  case nonzero =>
    intro divisor go
    have bound := s.operand_lt _ _ _ operand
    have positive : 0 < v.toNat := Nat.pos_of_ne_zero (BitVec.toNat_ne.1 divisor)
    obtain ⟨a, b, accA, accB, values⟩ := divide_pair s v
    obtain ⟨done, quotient, remainder, passed, only⟩ :=
      pair_completes (divide_onlyChanges s v) (by decide) accA accB go
    rw [exec_div operand divisor, ← State.dividend_eq]
    refine ⟨_, _, _, done, quotient, remainder, fun fits => ?_, passed, only.mono (by simp)⟩
    obtain ⟨rfl, rfl⟩ := values fits
    exact lowBits_quotient_remainder positive bound fits

end Sys2Proof.Machine.MulDiv

/-! SUPPORT. How the instructions of 44_branch_jump.md end: where control goes on, whether the processor mode lets it (R365),
and what the move there leaves alone. -/

namespace Sys2Proof.Machine

/-! Frames -/

theorem goto_onlyChanges (s : State) (a : Addr) : onlyChanges [.pc, .pg] s (s.goto a) :=
  onlyChanges_of_parts _ _ _ fun p => by cases p <;> simp [Part.same]

theorem setPc_onlyChanges (s : State) (v : Word) : onlyChanges [.pc] s (s.setPc v) :=
  onlyChanges_of_parts _ _ _ fun p => by cases p <;> simp [Part.same]

theorem setSp_onlyChanges (s : State) (v : Word) : onlyChanges [.sp] s (s.setSp v) :=
  onlyChanges_of_parts _ _ _ fun p => by cases p <;> simp [Part.same]

theorem raised_onlyChanges (s : State) (n : Nat) : onlyChanges [.sp] s (s.raised n) := setSp_onlyChanges s _

theorem pushed_onlyChanges (s : State) (bytes : List Byte) : onlyChanges [.mem, .sp] s (s.pushed bytes) :=
  (setMem_onlyChanges s _).append (setSp_onlyChanges _ _)

theorem onlyChanges_refl (s : State) : onlyChanges [] s s :=
  onlyChanges_of_parts _ _ _ fun p => by cases p <;> simp [Part.same]

/-- A part that ends as it began need not be listed. -/
theorem onlyChanges.drop {l k : List Part} {s t : State} {q : Part} (h : onlyChanges l s t) (restored : q.same s t)
    (sub : ∀ p ∈ l, p = q ∨ p ∈ k) : onlyChanges k s t := by
  intro p hp
  by_cases hq : p = q
  · exact hq ▸ restored
  · exact h p fun hl => (sub p hl).elim hq hp

/-! Going on elsewhere -/

theorem mayGoTo_addrOf (s : State) (bank dt : Byte) (v : Word) :
    s.mayGoTo (addrOf bank v) dt = banksLegal s.cfg bank dt := by
  rw [State.mayGoTo, bankOf_addrOf]

/-- An instruction whose effect `u` leaves the parameters and DT alone, and which then loads PG:PC, completes where the
processor mode lets the machine go on there. -/
theorem goto_completes {l : List Part} {s u : State} {a : Addr} (only : onlyChanges l s u)
    (keeps : ∀ p ∈ [Part.cfg, .dt], p ∉ l) (go : s.mayGoTo a s.dt = true) :
    complete (.ok (u.goto a)) = .next (u.goto a) ∧ onlyChanges (l ++ [.pc, .pg]) s (u.goto a) := by
  have cfg : u.cfg = s.cfg := only .cfg (keeps _ (by decide))
  have dt : u.dt = s.dt := only .dt (keeps _ (by decide))
  refine ⟨complete_ok _ ?_, only.append (goto_onlyChanges u a)⟩
  rwa [State.goto_cfg, State.goto_pg, State.goto_dt, cfg, dt]

/-- An instruction whose effect `u` leaves the parameters and both banks alone, and which then loads PC, completes where the
processor mode lets the machine go on in its bank. -/
theorem setPc_completes {l : List Part} {s u : State} (v : Word) {w : Word} (only : onlyChanges l s u)
    (keeps : ∀ p ∈ [Part.cfg, .dt, .pg], p ∉ l) (go : s.mayGoTo (addrOf s.pg w) s.dt = true) :
    complete (.ok (u.setPc v)) = .next (u.setPc v) ∧ onlyChanges (l ++ [.pc]) s (u.setPc v) := by
  have cfg : u.cfg = s.cfg := only .cfg (keeps _ (by decide))
  have dt : u.dt = s.dt := only .dt (keeps _ (by decide))
  have pg : u.pg = s.pg := only .pg (keeps _ (by decide))
  refine ⟨complete_ok _ ?_, only.append (setPc_onlyChanges u v)⟩
  rwa [State.setPc_cfg, State.setPc_pg, State.setPc_dt, cfg, dt, pg, ← mayGoTo_addrOf s s.pg s.dt w]

/-! Branch targets -/

/-- A 24-bit sum with a signed displacement, from its number (R101). -/
theorem eq_add_signExtend {w : Nat} {target next : Addr} {d : BitVec w}
    (h : (target.toNat : Int) = (next.toNat + d.toInt) % 2 ^ 24) : target = next + d.signExtend 24 := by
  apply BitVec.eq_of_toNat_eq
  rw [BitVec.signExtend, BitVec.toNat_add, BitVec.toNat_ofInt]
  omega

theorem eq_of_emod {target next : Addr} (h : (target.toNat : Int) = (next.toNat + 0) % 2 ^ 24) : target = next := by
  apply BitVec.eq_of_toNat_eq
  omega

/-- Where a branch goes: `target` is the branch's own target when it is taken and the next instruction when it is not. -/
theorem branchIf_eq_goto {s : State} {taken : Bool} {n : Nat} {rr : Byte} {target : Addr}
    (yes : taken = true → target = branchTarget (s.nextPC n) rr) (no : taken = false → target = s.nextPC n) :
    s.branchIf taken n rr = s.goto target := by
  cases taken with
  | true => rw [yes rfl]; rfl
  | false => rw [no rfl]; rfl

/-- The branch on the condition (R201 to R208). -/
def Cond.branch (c : Cond) (rr : Byte) : Instr :=
  match c with
  | .cc => .bcc rr
  | .cs => .bcs rr
  | .eq => .beq rr
  | .mi => .bmi rr
  | .ne => .bne rr
  | .pl => .bpl rr
  | .vc => .bvc rr
  | .vs => .bvs rr

/-- The code of that branch (R201 to R208). -/
def Cond.code : Cond → Byte
  | .cc => 0x90
  | .cs => 0xB0
  | .eq => 0xF0
  | .mi => 0x30
  | .ne => 0xD0
  | .pl => 0x10
  | .vc => 0x50
  | .vs => 0x70

/-- The entry of that branch, with whether it is taken. -/
def Cond.entry (p : PS) (rr : Byte) (c : Cond) : Entry Bool := ⟨c.branch rr, [c.code, rr], 4, p.holds c⟩

theorem exec_branch (c : Cond) (rr : Byte) (s : State) : exec (c.branch rr) s = opBranch c rr s := by
  cases c <;> rfl

theorem branch_encoded (p : PS) (rr : Byte) (c : Cond) : (c.entry p rr).encoded := by
  apply Entry.encoded_of_encode <;> cases c <;> intros <;> rfl

/-- A conditional branch takes 4 cycles, and 2 more when it is taken (R373). -/
theorem minCycles_branch (c : Cond) (rr : Byte) (s : State) :
    minCycles (c.branch rr) s = 4 + if s.ps.holds c then 2 else 0 := by
  cases c <;> rfl

theorem branch_completes {s : State} {c : Cond} {rr : Byte} {target : Addr}
    (ht : (target.toNat : Int) = ((s.nextPC 2).toNat + if s.ps.holds c then rr.toInt else 0) % 2 ^ 24)
    (go : s.mayGoTo target s.dt = true) :
    ∃ t, exec (c.branch rr) s = .next t ∧ t.pcAddr = target ∧ onlyChanges [.pc, .pg] s t := by
  obtain ⟨done, only⟩ := goto_completes (onlyChanges_refl s) (by decide) go
  have moved : s.branchIf (s.ps.holds c) 2 rr = s.goto target :=
    branchIf_eq_goto (fun taken => eq_add_signExtend (by rwa [if_pos taken] at ht))
      (fun passed => eq_of_emod (by rwa [passed] at ht))
  refine ⟨s.goto target, ?_, State.goto_pcAddr s target, only⟩
  rw [exec_branch, opBranch, moved]
  exact done

theorem bra_completes {s : State} {d : Displacement} {target : Addr} (run : exec (.bra d) s = complete (.ok (s.goto target)))
    (go : s.mayGoTo target s.dt = true) :
    ∃ t, exec (.bra d) s = .next t ∧ t.pcAddr = target ∧ onlyChanges [.pc, .pg] s t := by
  obtain ⟨done, only⟩ := goto_completes (onlyChanges_refl s) (by decide) go
  exact ⟨s.goto target, run.trans done, State.goto_pcAddr s target, only⟩

/-! Tests of memory bits -/

theorem truncTo_getLsbD (w : Width) (v : Word) (j : Nat) :
    (truncTo w v).getLsbD j = (decide (j < bitsOf w) && v.getLsbD j) := by
  rw [BitVec.getLsbD, truncTo_toNat, lowBits, Nat.testBit_mod_two_pow, BitVec.getLsbD]

/-- Every bit below the width that the mask selects has the value `b` in the number `n`. -/
def bitsAre (w : Width) (mask : Word) (n : Nat) (b : Bool) : Prop :=
  ∀ j < bitsOf w, mask.getLsbD j = true → n.testBit j = b

/-- The selected bits of `v` are all 1 when the mask keeps its bits under `v`, and all 0 when it keeps none. -/
theorem and_truncTo_eq_iff (w : Width) (v mask : Word) (b : Bool) :
    v &&& truncTo w mask = (if b then truncTo w mask else 0) ↔ bitsAre w mask v.toNat b := by
  constructor
  · intro h j low selected
    have bit := congrArg (·.getLsbD j) h
    change v.getLsbD j = b
    cases b <;> simpa [truncTo_getLsbD, low, selected] using bit
  · intro h
    apply BitVec.eq_of_getLsbD_eq
    intro j _
    cases selected : (truncTo w mask).getLsbD j with
    | false => cases b <;> simp [selected]
    | true =>
      obtain ⟨low, inMask⟩ : j < bitsOf w ∧ mask.getLsbD j = true := by simpa [truncTo_getLsbD] using selected
      have bit : v.getLsbD j = b := h j low inMask
      cases b <;> simp [selected, bit]

/-- An instruction that branches on whether the bits that the mask selects in the datum at `a` are all `b` (R210, R211). -/
theorem branchOnBits_completes {s : State} {i : Instr} {test : Word → Word → Bool} {o : MemMode} {imm : Word} {rr : Byte}
    {a target : Addr} {b : Bool} (run : exec i s = branchOnBits test o imm rr s)
    (length : s.lengthOf i = 1 + o.length + bytesOf s.mw + 1)
    (tests : ∀ v : Word, test v (truncTo s.mw imm) = true ↔ v &&& truncTo s.mw imm = if b then truncTo s.mw imm else 0)
    (ea : s.ea o = .ok a) (read : s.canRead (bytesOf s.mw) a = true)
    (yes : bitsAre s.mw imm (s.number (bytesOf s.mw) a) b →
      (target.toNat : Int) = ((s.nextPC (s.lengthOf i)).toNat + rr.toInt) % 2 ^ 24)
    (no : ¬ bitsAre s.mw imm (s.number (bytesOf s.mw) a) b → target = s.nextPC (s.lengthOf i))
    (go : s.mayGoTo target s.dt = true) :
    ∃ t, exec i s = .next t ∧ t.pcAddr = target ∧ onlyChanges [.pc, .pg] s t := by
  obtain ⟨v, datum, value⟩ := s.readData_ok s.mw a read
  obtain ⟨done, only⟩ := goto_completes (onlyChanges_refl s) (by decide) go
  have taken_iff := (tests v).trans (and_truncTo_eq_iff s.mw v imm b)
  rw [value] at taken_iff
  rw [length] at yes no
  have moved : s.branchIf (test v (truncTo s.mw imm)) (1 + o.length + bytesOf s.mw + 1) rr = s.goto target :=
    branchIf_eq_goto (fun taken => eq_add_signExtend (yes (taken_iff.1 taken)))
      (fun passed => no fun bits => by simp [taken_iff.2 bits] at passed)
  refine ⟨s.goto target, ?_, State.goto_pcAddr s target, only⟩
  rw [run, branchOnBits, complete_bind_ok ea, complete_bind_ok datum, moved]
  exact done

end Sys2Proof.Machine

/-! SUPPORT. The pointers of the jumps, and what the calls and returns make of the state once their stack accesses succeed. -/

namespace Sys2Proof.Machine

/-! Pointers -/

/-- The pointer of JMP and JSR (ABS,X) where the sum stays in the bank (R99). -/
theorem indexedTarget_ok {s : State} {mmll : Word} {p : Addr}
    (address : p.toNat = 65536 * s.pg.toNat + mmll.toNat + lowBits s.xw s.x)
    (inBank : mmll.toNat + lowBits s.xw s.x + 1 ≤ 0xFFFF) (read : s.canRead 2 p = true) :
    ∃ v, s.indexedTarget mmll = .ok v ∧ v.toNat = s.number 2 p := by
  rw [← s.xi_toNat] at address inBank
  obtain rfl := eq_addrOf_add s.pg mmll s.xi p address inBank
  exact ⟨_, (if_pos inBank).trans (s.readWord_ok _ read), (s.number_word _).symm⟩

theorem indexedTarget_beyond {s : State} {mmll : Word} (beyond : 0xFFFF < mmll.toNat + lowBits s.xw s.x + 1) :
    s.indexedTarget mmll = .error .indexedIndirectOverflow := by
  rw [← s.xi_toNat] at beyond
  exact if_neg (Nat.not_le.2 beyond)

/-! Calls -/

/-- What JSR ABS and JSR (ABS,X) push: the low 16 bits of the address after them (R213). -/
def State.shortReturn (s : State) : List Byte := [highByte (offsetOf (s.nextPC 3)), lowByte (offsetOf (s.nextPC 3))]

/-- What JSR ABL pushes: the address after it (R213). -/
def State.longReturn (s : State) : List Byte :=
  [bankOf (s.nextPC 4), highByte (offsetOf (s.nextPC 4)), lowByte (offsetOf (s.nextPC 4))]

@[simp] theorem shortReturn_length (s : State) : s.shortReturn.length = 2 := rfl

@[simp] theorem longReturn_length (s : State) : s.longReturn.length = 3 := rfl

theorem exec_jsr_abs {s : State} (mmll : Word) (can : s.canPush 3 2 s.sp = true) :
    exec (.jsr (.abs mmll)) s = complete (.ok ((s.pushed s.shortReturn).setPc mmll)) :=
  complete_bind_ok (s.push16_ok 3 _ can) _

theorem exec_jsr_absXInd {s : State} (mmll : Word) (can : s.canPush 3 2 s.sp = true) :
    exec (.jsr (.absXInd mmll)) s =
      complete ((s.pushed s.shortReturn).indexedTarget mmll >>= fun p => pure ((s.pushed s.shortReturn).setPc p)) :=
  complete_bind_ok (s.push16_ok 3 _ can) _

theorem exec_jsr_abl {s : State} (hhmmll : Addr) (can : s.canPush 4 3 s.sp = true) :
    exec (.jsr (.abl hhmmll)) s = complete (.ok ((s.pushed s.longReturn).goto hhmmll)) := by
  rw [State.canPush_append s 4 1 2, Bool.and_eq_true] at can
  obtain ⟨canBank, canOffset⟩ := can
  have offset := (s.pushed [bankOf (s.nextPC 4)]).push16_ok 4 (offsetOf (s.nextPC 4))
    ((s.pushed_canPush _ 4 2 _).trans canOffset)
  rw [State.pushed_append] at offset
  exact (complete_bind_ok (s.push8_ok 4 _ canBank) _).trans (complete_bind_ok offset _)

/-! Returns -/

/-- The offset that the two bytes above S make (R214). -/
def State.returnOffset (s : State) : Word := wordOf (s.stackByte 2) (s.stackByte 1)

theorem returnOffset_toNat (s : State) : s.returnOffset.toNat = s.stackNumber .w16 0 := wordOf_toNat _ _

theorem exec_rts {s : State} (can : s.canPull 2 s.sp = true) :
    exec .rts s = complete (.ok ((s.raised 2).setPc s.returnOffset)) :=
  complete_bind_ok (s.pull16_ok can) _

theorem goto_addrOf (s : State) (bank : Byte) (v : Word) : s.goto (addrOf bank v) = (s.setPg bank).setPc v := by
  simp only [State.goto, bankOf_addrOf, offsetOf_addrOf, State.setPg, State.setPc]

theorem exec_rtl {s : State} (can : s.canPull 3 s.sp = true) :
    exec .rtl s = complete (.ok ((s.raised 3).goto (addrOf (s.stackByte 3) s.returnOffset))) := by
  rw [State.canPull_append s 2 1, Bool.and_eq_true] at can
  obtain ⟨canOffset, canBank⟩ := can
  have bank := (s.raised 2).pull8_raised ((s.raised_canPull 2 1 _).trans canBank)
  rw [State.raised_raised, State.raised_stackByte] at bank
  refine (complete_bind_ok (s.pull16_ok canOffset) _).trans ?_
  simp only [State.pullReg, bank, res_ok_bind, res_pure, goto_addrOf, State.returnOffset]

/-! Returning from a call -/

theorem returnOffset_shortReturn {s : State} (wf : s.mem.wf = true) :
    (s.pushed s.shortReturn).returnOffset = offsetOf (s.nextPC 3) := by
  have low := Option.some.inj (s.pushed_stackByte s.shortReturn wf (by simp) 1 (by simp) (by simp))
  have high := Option.some.inj (s.pushed_stackByte s.shortReturn wf (by simp) 2 (by simp) (by simp))
  rw [State.returnOffset, low, high, wordOf_highByte_lowByte]

theorem returnAddress_longReturn {s : State} (wf : s.mem.wf = true) :
    addrOf ((s.pushed s.longReturn).stackByte 3) (s.pushed s.longReturn).returnOffset = s.nextPC 4 := by
  have low := Option.some.inj (s.pushed_stackByte s.longReturn wf (by simp) 1 (by simp) (by simp))
  have high := Option.some.inj (s.pushed_stackByte s.longReturn wf (by simp) 2 (by simp) (by simp))
  have bank := Option.some.inj (s.pushed_stackByte s.longReturn wf (by simp) 3 (by simp) (by simp))
  rw [State.returnOffset, low, high, bank, wordOf_highByte_lowByte, addrOf_bankOf_offsetOf]

/-- After `bytes` are pushed they can be pulled. -/
theorem pushed_canPull_back {s : State} {len : Nat} (bytes : List Byte) (can : s.canPush len bytes.length s.sp = true) :
    (s.pushed bytes).canPull bytes.length (s.pushed bytes).sp = true :=
  (s.pushed_canPull _ _ _).trans (s.canPull_of_canPush len _ _ can)

/-- Pulling as many bytes as were pushed gives S back. -/
theorem pushed_raised_sp (s : State) (bytes : List Byte) : ((s.pushed bytes).raised bytes.length).sp = s.sp :=
  BitVec.sub_add_cancel _ _

/-- RTS after JSR ABS (R213, R214). -/
theorem exec_rts_after_jsr_abs {s : State} (mmll : Word) (wf : s.mem.wf = true) (can : s.canPush 3 2 s.sp = true) :
    exec .rts ((s.pushed s.shortReturn).setPc mmll) =
      complete (.ok ((((s.pushed s.shortReturn).setPc mmll).raised 2).setPc (offsetOf (s.nextPC 3)))) := by
  have can' : ((s.pushed s.shortReturn).setPc mmll).canPull 2 (s.pushed s.shortReturn).sp = true :=
    pushed_canPull_back s.shortReturn can
  have offset : ((s.pushed s.shortReturn).setPc mmll).returnOffset = offsetOf (s.nextPC 3) := returnOffset_shortReturn wf
  rw [exec_rts can', offset]

/-- RTL after JSR ABL (R213, R215). -/
theorem exec_rtl_after_jsr_abl {s : State} (hhmmll : Addr) (wf : s.mem.wf = true) (can : s.canPush 4 3 s.sp = true) :
    exec .rtl ((s.pushed s.longReturn).goto hhmmll) =
      complete (.ok ((((s.pushed s.longReturn).goto hhmmll).raised 3).goto (s.nextPC 4))) := by
  have can' : ((s.pushed s.longReturn).goto hhmmll).canPull 3 (s.pushed s.longReturn).sp = true :=
    pushed_canPull_back s.longReturn can
  have address : addrOf (((s.pushed s.longReturn).goto hhmmll).stackByte 3)
      ((s.pushed s.longReturn).goto hhmmll).returnOffset = s.nextPC 4 := returnAddress_longReturn wf
  rw [exec_rtl can', address]

end Sys2Proof.Machine

/-! SUPPORT. Proofs of the statements about branches, jumps, calls and returns (44_branch_jump.md). -/

namespace Sys2Proof.Machine

/-- Settles O36: the eight conditional branches differ in their code and condition alone; both forms of BRA go to the sum. -/
theorem relativeBranches : Obligations.RelativeBranches := by
  intro s rr rrrr
  refine ⟨?conditional, ?always⟩
  case conditional =>
    change ∀ p ∈ [Cond.cc, .cs, .eq, .mi, .ne, .pl, .vc, .vs].map (Cond.entry s.ps rr), _
    rw [List.forall_mem_map]
    exact fun c _ => ⟨branch_encoded s.ps rr c, minCycles_branch c rr s, fun target => branch_completes⟩
  case always =>
    simp only [List.forall_mem_cons, List.not_mem_nil, false_imp_iff, implies_true, and_true]
    refine ⟨⟨?_, rfl, fun target ht => ?short⟩, ⟨?_, rfl, fun target ht => ?long⟩⟩
    case short => exact bra_completes (by rw [eq_add_signExtend ht]; rfl)
    case long => exact bra_completes (by rw [eq_add_signExtend ht]; rfl)
    all_goals exact Entry.encoded_of_encode _ (fun _ _ => rfl) (fun _ _ => rfl) rfl

/-- Settles O37: BBS tests that the mask keeps all its bits under the datum, BBC that it keeps none. -/
theorem bitBranches : Obligations.BitBranches := by
  intro s o imm rr a ea read
  simp only [List.forall_mem_cons, List.not_mem_nil, false_imp_iff, implies_true, and_true]
  refine ⟨fun target => ?bbs, fun target => ?bbc⟩
  case bbs =>
    exact branchOnBits_completes (b := true) (test := fun v mask => v &&& mask == mask) rfl rfl (fun _ => beq_iff_eq) ea read
  case bbc =>
    exact branchOnBits_completes (b := false) (test := fun v mask => v &&& mask == 0) rfl rfl (fun _ => beq_iff_eq) ea read

/-- Settles O38: the direct forms end at once; the indirect ones once their pointer is read. -/
theorem jumps : Obligations.Jumps := by
  intro s mmll hhmmll p
  have stays := onlyChanges_refl s
  refine ⟨?abs, ?abl, ?absInd, ?absIndL, ?absXInd, ?beyond⟩
  case abs =>
    intro go
    obtain ⟨done, only⟩ := setPc_completes mmll stays (by decide) go
    exact ⟨_, done, rfl, only⟩
  case abl =>
    intro go
    obtain ⟨done, only⟩ := goto_completes stays (by decide) go
    exact ⟨_, done, State.goto_pcAddr s hhmmll, only⟩
  case absInd =>
    intro address read go
    obtain rfl := eq_addrOf_zero mmll p address
    obtain ⟨done, only⟩ := setPc_completes _ stays (by decide) go
    exact ⟨_, (complete_bind_ok (s.readWord_ok _ read) _).trans done, (s.number_word _).symm, only⟩
  case absIndL =>
    intro address read go
    obtain rfl := eq_addrOf_zero mmll p address
    rw [s.number_long, BitVec.ofNat_toNat, BitVec.setWidth_eq] at go
    obtain ⟨done, only⟩ := goto_completes stays (by decide) go
    refine ⟨_, (complete_bind_ok (s.readLong_ok _ read) _).trans done, ?_, only⟩
    rw [State.goto_pcAddr, s.number_long]
  case absXInd =>
    intro address inBank read go
    obtain ⟨v, pointer, value⟩ := indexedTarget_ok (address.trans (Nat.add_assoc ..).symm) inBank read
    obtain ⟨done, only⟩ := setPc_completes v stays (by decide) go
    exact ⟨_, (complete_bind_ok pointer _).trans done, value, only⟩
  case beyond => exact fun beyond => complete_bind_refused (indexedTarget_beyond beyond)

/-- Settles O39: each form makes its pushes and then moves on; the frame of the pushes adds to that of the move. -/
theorem calls : Obligations.Calls := by
  intro s mmll hhmmll wf ret ret4
  have shortPushed := s.pushed_pushes s.shortReturn wf (by simp)
  have shortOnly := pushed_onlyChanges s s.shortReturn
  refine ⟨?abs, ?abl, ?absXInd, ?beyond⟩
  case abs =>
    intro can go
    obtain ⟨done, only⟩ := setPc_completes mmll shortOnly (by decide) go
    exact ⟨_, (exec_jsr_abs mmll can).trans done, shortPushed, rfl, only⟩
  case abl =>
    intro can go
    obtain ⟨done, only⟩ := goto_completes (pushed_onlyChanges s s.longReturn) (by decide) go
    exact ⟨_, (exec_jsr_abl hhmmll can).trans done, s.pushed_pushes s.longReturn wf (by simp),
      State.goto_pcAddr _ hhmmll, only⟩
  case absXInd =>
    intro p can go address inBank read
    obtain ⟨v, pointer, value⟩ := indexedTarget_ok (s := s.pushed s.shortReturn) address inBank
      ((s.pushed_canRead _ 2 p).trans read)
    obtain ⟨done, only⟩ := setPc_completes v shortOnly (by decide) go
    exact ⟨_, ((exec_jsr_absXInd mmll can).trans (complete_bind_ok pointer _)).trans done, shortPushed, value, only⟩
  case beyond =>
    intro can beyond
    exact (exec_jsr_absXInd mmll can).trans (complete_bind_refused (indexedTarget_beyond (s := s.pushed _) beyond))

/-- Settles O40: RTS loads PC and RTL loads PG:PC from the bytes above S, which they raise. -/
theorem subroutineReturns : Obligations.SubroutineReturns := by
  intro s
  refine ⟨?_, ?_, ?rts, ?rtl⟩
  case rts =>
    intro can go
    obtain ⟨done, only⟩ := setPc_completes s.returnOffset (raised_onlyChanges s 2) (by decide) go
    exact ⟨_, (exec_rts can).trans done, returnOffset_toNat s, rfl, only.mono (by simp)⟩
  case rtl =>
    intro can legal
    obtain ⟨done, only⟩ := goto_completes (a := addrOf (s.stackByte 3) s.returnOffset) (raised_onlyChanges s 3) (by decide)
      ((mayGoTo_addrOf ..).trans legal)
    refine ⟨_, (exec_rtl can).trans done, ?_, bankOf_addrOf _ _, rfl, only.mono (by simp)⟩
    rw [State.goto_pc, offsetOf_addrOf, returnOffset_toNat]
  all_goals exact Entry.encoded_of_encode _ (fun _ _ => rfl) (fun _ _ => rfl) rfl

/-- Settles O41: the return pulls the bytes that the call pushed, so that S ends as it began. -/
theorem callThenReturn : Obligations.CallThenReturn := by
  intro s mmll hhmmll wf
  refine ⟨?long, ?short⟩
  case long =>
    intro can go back
    obtain ⟨called, only⟩ := goto_completes (pushed_onlyChanges s s.longReturn) (by decide) go
    obtain ⟨returned, only'⟩ := goto_completes (only.append (raised_onlyChanges _ 3)) (by decide) back
    have restored : ((s.pushed s.longReturn).raised 3).sp = s.sp := pushed_raised_sp s s.longReturn
    exact ⟨_, _, (exec_jsr_abl hhmmll can).trans called, (exec_rtl_after_jsr_abl hhmmll wf can).trans returned,
      State.goto_pcAddr _ _, only'.drop (q := .sp) restored (by simp)⟩
  case short =>
    intro can go sameBank
    obtain ⟨called, only⟩ := setPc_completes mmll (pushed_onlyChanges s s.shortReturn) (by decide) go
    obtain ⟨returned, only'⟩ :=
      setPc_completes (offsetOf (s.nextPC 3)) (only.append (raised_onlyChanges _ 2)) (by decide) go
    have restored : ((s.pushed s.shortReturn).raised 2).sp = s.sp := pushed_raised_sp s s.shortReturn
    refine ⟨_, _, (exec_jsr_abs mmll can).trans called, (exec_rts_after_jsr_abs mmll wf can).trans returned,
      ?_, only'.drop (q := .sp) restored (by simp)⟩
    calc addrOf s.pg (offsetOf (s.nextPC 3)) = addrOf (bankOf (s.nextPC 3)) (offsetOf (s.nextPC 3)) := by rw [sameBank]
      _ = s.nextPC 3 := addrOf_bankOf_offsetOf _

end Sys2Proof.Machine

/-! SUPPORT. Frames of what the stack instructions write, and how an instruction ends that pushes bytes or loads DT and moves past
itself (R22, R47, R365). -/

namespace Sys2Proof.Machine

theorem setDpr_onlyChanges (s : State) (v : Word) : onlyChanges [.dpr] s (s.setDpr v) :=
  onlyChanges_of_parts _ _ _ fun p => by cases p <;> simp [Part.same]

theorem setPg_onlyChanges (s : State) (v : Byte) : onlyChanges [.pg] s (s.setPg v) :=
  onlyChanges_of_parts _ _ _ fun p => by cases p <;> simp [Part.same]

theorem setPs_onlyChanges (s : State) (p : PS) :
    onlyChanges [.flagN, .flagV, .flagM, .flagX, .flagD, .flagI, .flagZ, .flagC, .ipl] s (s.setPs p) :=
  onlyChanges_of_parts _ _ _ fun p => by cases p <;> simp [Part.same]

/-- As `advance_completes`, for an effect `u` that may load DT: the processor mode must allow the new DT. -/
theorem advance_completes_of_dt {l : List Part} {s u : State} {i : Instr} (only : onlyChanges l s u)
    (keeps : ∀ p ∈ [Part.cfg, .pc, .pg], p ∉ l) (go : s.mayGoTo (s.nextPC (s.lengthOf i)) u.dt = true) :
    complete (.ok (u.advance (s.lengthOf i))) = .next (u.advance (s.lengthOf i)) ∧ passes i s (u.advance (s.lengthOf i)) ∧
      onlyChanges (l ++ [.pc, .pg]) s (u.advance (s.lengthOf i)) := by
  have cfg : u.cfg = s.cfg := only .cfg (keeps _ (by decide))
  have pc : u.pc = s.pc := only .pc (keeps _ (by decide))
  have pg : u.pg = s.pg := only .pg (keeps _ (by decide))
  have next : u.nextPC (s.lengthOf i) = s.nextPC (s.lengthOf i) := by
    rw [State.nextPC, State.nextPC, State.pcAddr, State.pcAddr, pc, pg]
  refine ⟨complete_ok _ ?_, (State.advance_pcAddr u _).trans next, only.append (advance_onlyChanges u _)⟩
  rw [State.advance_cfg, State.advance_pg, State.advance_dt, cfg, next]
  exact go

/-- An instruction that pushes `bytes` and moves past itself. -/
theorem push_completes {s : State} {i : Instr} {bytes : List Byte} (wf : s.mem.wf = true) (short : bytes.length ≤ 65536)
    (run : exec i s = complete (.ok ((s.pushed bytes).advance (s.lengthOf i)))) (go : s.mayContinue i = true) :
    ∃ t, exec i s = .next t ∧ pushes bytes s t ∧ passes i s t ∧ onlyChanges [.mem, .sp, .pc, .pg] s t := by
  obtain ⟨done, passed, only⟩ := advance_completes (pushed_onlyChanges s bytes) (by decide) go
  exact ⟨_, run.trans done, s.pushed_pushes bytes wf short, passed, only⟩

end Sys2Proof.Machine

/-! SUPPORT. Pushing one register and the registers of a mask (R230, R253). -/

namespace Sys2Proof.Machine

theorem regBytes_length_le (s : State) (r : Reg) : (s.regBytes r).length ≤ 2 := by
  have bytes : ∀ w, bytesOf w ≤ 2 := by
    intro w
    cases w <;> decide
  rw [regBytes_length]
  cases r with
  | a | b | x | y => exact bytes _
  | dpr | ps => exact le_rfl
  | dt | pg => exact one_le_two

theorem listedBytes_length_le (s : State) (nn : Byte) (l : List (Nat × Reg)) :
    (s.listedBytes nn l).length ≤ 2 * l.length := by
  induction l with
  | nil => exact Nat.zero_le _
  | cons c rest ih =>
    have one : (if nn.getLsbD c.1 then s.regBytes c.2 else []).length ≤ 2 := by
      split
      · exact regBytes_length_le s c.2
      · exact Nat.zero_le _
    simp only [State.listedBytes, List.length_append, List.length_cons]
    omega

theorem pushSelected_ok (s : State) (nn : Byte) (l : List (Nat × Reg))
    (can : s.canPush 2 (s.listedBytes nn l).length s.sp = true) :
    s.pushSelected nn l = .ok (s.pushed (s.listedBytes nn l)) := by
  induction l generalizing s with
  | nil => rw [State.listedBytes, State.pushed_nil, State.pushSelected]
  | cons c rest ih =>
    rw [State.pushSelected]
    simp only [State.listedBytes, List.length_append] at can ⊢
    split
    · next selected =>
      rw [if_pos selected, State.canPush_append, Bool.and_eq_true] at can
      obtain ⟨canFirst, canRest⟩ := can
      rw [s.pushReg_ok 2 c.2 canFirst, res_ok_bind, ih _ (by rwa [pushed_listedBytes, State.pushed_canPush]),
        pushed_listedBytes, State.pushed_append]
    · next skipped =>
      rw [if_neg skipped, List.length_nil, Nat.zero_add] at can
      rw [ih s can, List.nil_append]

/-- The state after PSH. -/
def State.saved (s : State) (nn : Byte) : State := (s.pushed (s.selectedBytes nn)).advance 2

theorem selectedBytes_length_le (s : State) (nn : Byte) : (s.selectedBytes nn).length ≤ 65536 := by
  rw [← listedBytes_pshOrder]
  exact (listedBytes_length_le s nn pshOrder).trans (by decide)

theorem exec_psh {s : State} {nn : Byte} (can : s.canPush 2 (s.selectedBytes nn).length s.sp = true) :
    exec (.psh nn) s = complete (.ok (s.saved nn)) := by
  have pushed : s.pushSelected nn pshOrder = .ok (s.pushed (s.selectedBytes nn)) := by
    rw [← listedBytes_pshOrder] at can ⊢
    exact pushSelected_ok s nn pshOrder can
  exact complete_bind_ok pushed _

/-- The single push of a register (R231 to R239). -/
def Reg.pushInstr : Reg → Instr
  | .a => .pha
  | .b => .phb
  | .x => .phx
  | .y => .phy
  | .dpr => .phd
  | .dt => .pht
  | .pg => .phg
  | .ps => .php

/-- Its bytes (R231 to R239). -/
def Reg.pushCode : Reg → List Byte
  | .a => [0x48]
  | .b => [0x42, 0x48]
  | .x => [0xDA]
  | .y => [0x5A]
  | .dpr => [0x0B]
  | .dt => [0x8B]
  | .pg => [0x4B]
  | .ps => [0x08]

/-- Its cycles (R231 to R239). -/
def Reg.pushCycles : Reg → Nat
  | .b => 6
  | .dt | .pg => 3
  | .a | .x | .y | .dpr | .ps => 4

/-- The entry of a single push, with the bytes it pushes. -/
def State.pushEntry (s : State) (r : Reg) : Entry (List Byte) := ⟨r.pushInstr, r.pushCode, r.pushCycles, s.regBytes r⟩

theorem pushEntry_encoded (s : State) (r : Reg) : (s.pushEntry r).encoded := by
  apply Entry.encoded_of_encode <;> cases r <;> intros <;> rfl

theorem lengthOf_pushInstr (s : State) (r : Reg) : s.lengthOf r.pushInstr = r.stackLength := by
  cases r <;> rfl

theorem exec_pushInstr (s : State) (r : Reg) : exec r.pushInstr s = opPush r s := by
  cases r <;> rfl

theorem pushReg_completes {s : State} (r : Reg) (wf : s.mem.wf = true)
    (can : s.canPush (s.lengthOf r.pushInstr) (s.regBytes r).length s.sp = true) (go : s.mayContinue r.pushInstr = true) :
    ∃ t, exec r.pushInstr s = .next t ∧ pushes (s.regBytes r) s t ∧ passes r.pushInstr s t ∧
      onlyChanges [.mem, .sp, .pc, .pg] s t := by
  refine push_completes wf ((regBytes_length_le s r).trans (by decide)) ?_ go
  rw [lengthOf_pushInstr] at can ⊢
  rw [exec_pushInstr]
  exact complete_bind_ok (s.pushReg_ok _ r can) _

/-- What PER pushes, from its number (R252). -/
theorem relativeWord_toNat (next : Addr) (b3 b2 : Byte) :
    (offsetOf next + wordOf b3 b2).toNat = (next.toNat + 256 * b3.toNat + b2.toNat) % 65536 := by
  rw [BitVec.toNat_add, wordOf_toNat, offsetOf, BitVec.extractLsb'_toNat, Nat.shiftRight_zero]
  omega

end Sys2Proof.Machine

/-! SUPPORT. Proofs of the statements about the push instructions (45_stack.md R231 to R239, R250 to R253). -/

namespace Sys2Proof.Machine

/-- Settles O42: the eight pushes differ in their register alone. -/
theorem singlePushes : Obligations.SinglePushes := by
  intro s wf
  change ∀ p ∈ [Reg.a, .b, .dpr, .pg, .ps, .dt, .x, .y].map s.pushEntry, _
  rw [List.forall_mem_map]
  exact fun r _ => ⟨pushEntry_encoded s r, pushReg_completes r wf⟩

/-- Settles O44: each of the three pushes one word, which PEI reads first. -/
theorem pushComputed : Obligations.PushComputed := by
  intro s b2 b3 dd wf
  refine ⟨?pea, ?pei, ?per⟩
  case pea =>
    intro can go
    have pushed := s.push16_ok 3 (wordOf b3 b2) can
    rw [highByte_wordOf, lowByte_wordOf] at pushed
    exact push_completes wf (by simp) (complete_bind_ok pushed _) go
  case pei =>
    intro a address read can go
    obtain rfl := s.eq_directAddr dd a address
    have pushed := s.push16_ok 2 (wordOf (s.mem.get (s.directAddr dd + 1)) (s.mem.get (s.directAddr dd))) can
    rw [highByte_wordOf, lowByte_wordOf] at pushed
    exact push_completes wf (by simp) ((complete_bind_ok (s.readWord_ok _ read) _).trans (complete_bind_ok pushed _)) go
  case per =>
    intro can go
    have pushed := s.push16_ok 3 (offsetOf (s.nextPC 3) + wordOf b3 b2) can
    rw [← ofNat_highByte, ← ofNat_lowByte, relativeWord_toNat] at pushed
    exact push_completes wf (by simp) (complete_bind_ok pushed _) go

/-- Settles O45: by induction on the bits of the mask, PSH pushes the bytes of the selected registers one after the other. -/
theorem pushSelected : Obligations.PushSelected := by
  intro s nn wf can go
  exact push_completes wf (selectedBytes_length_le s nn) (exec_psh can) go

end Sys2Proof.Machine

/-! SUPPORT. What a pull makes of the state: the register that it loads from the bytes above S, the parts of the state that
register consists of, and S (R230, R240 to R246). -/

namespace Sys2Proof.Machine

/-! The parts of a register -/

/-- The parts of the state that a register of the stack instructions consists of. -/
def Reg.parts : Reg → List Part
  | .a => [.acc .a]
  | .b => [.acc .b]
  | .x => [.x]
  | .y => [.y]
  | .dpr => [.dpr]
  | .dt => [.dt]
  | .pg => [.pg]
  | .ps => [.flagN, .flagV, .flagM, .flagX, .flagD, .flagI, .flagZ, .flagC, .ipl]

/-- The register that a part belongs to, if any. -/
def Part.owner : Part → Option Reg
  | .acc .a => some .a
  | .acc .b => some .b
  | .x => some .x
  | .y => some .y
  | .dpr => some .dpr
  | .dt => some .dt
  | .pg => some .pg
  | .flagN | .flagV | .flagM | .flagX | .flagD | .flagI | .flagZ | .flagC | .ipl => some .ps
  | _ => none

theorem owner_of_mem_parts {p : Part} {r : Reg} (h : p ∈ r.parts) : p.owner = some r := by
  have all : ∀ q ∈ r.parts, q.owner = some r := by cases r <;> decide
  exact all p h

theorem ne_sp_of_mem_parts {p : Part} {r : Reg} (h : p ∈ r.parts) : p ≠ .sp := by
  rintro rfl
  cases owner_of_mem_parts h

/-- No part belongs to two registers. -/
theorem not_mem_parts_of_ne {p : Part} {r q : Reg} (h : p ∈ r.parts) (ne : q ≠ r) : p ∉ q.parts := fun k =>
  ne (Option.some.inj ((owner_of_mem_parts k).symm.trans (owner_of_mem_parts h)))

/-- A register holds the same in both states. -/
def Reg.same (r : Reg) (s t : State) : Prop := ∀ p ∈ r.parts, p.same s t

theorem Reg.same.trans {r : Reg} {s t u : State} (h : r.same s t) (k : r.same t u) : r.same s u := fun p hp =>
  (h p hp).trans (k p hp)

theorem same_a_iff (s t : State) : Reg.a.same s t ↔ t.a = s.a := by simp [Reg.same, Reg.parts, Part.same]
theorem same_b_iff (s t : State) : Reg.b.same s t ↔ t.b = s.b := by simp [Reg.same, Reg.parts, Part.same]
theorem same_x_iff (s t : State) : Reg.x.same s t ↔ t.x = s.x := by simp [Reg.same, Reg.parts, Part.same]
theorem same_y_iff (s t : State) : Reg.y.same s t ↔ t.y = s.y := by simp [Reg.same, Reg.parts, Part.same]
theorem same_dpr_iff (s t : State) : Reg.dpr.same s t ↔ t.dpr = s.dpr := by simp [Reg.same, Reg.parts, Part.same]
theorem same_dt_iff (s t : State) : Reg.dt.same s t ↔ t.dt = s.dt := by simp [Reg.same, Reg.parts, Part.same]
theorem same_pg_iff (s t : State) : Reg.pg.same s t ↔ t.pg = s.pg := by simp [Reg.same, Reg.parts, Part.same]
theorem same_ps_iff (s t : State) : Reg.ps.same s t ↔ t.ps = s.ps := by
  cases hs : s.ps
  cases ht : t.ps
  simp [Reg.same, Reg.parts, Part.same, hs, ht]

/-! Loading a register from the stack -/

/-- The value of `w` bits that lies `k` bytes above the next byte to be pulled. -/
def State.stackWord (s : State) (w : Width) (k : Nat) : Word :=
  match w with
  | .w8 => wordOfByte (s.stackByte (k + 1))
  | .w16 => wordOf (s.stackByte (k + 2)) (s.stackByte (k + 1))

theorem stackWord_toNat (s : State) (w : Width) (k : Nat) : (s.stackWord w k).toNat = s.stackNumber w k := by
  cases w with
  | w8 => exact wordOfByte_toNat _
  | w16 => exact wordOf_toNat _ _

theorem stackWord_lt (s : State) (w : Width) (k : Nat) : (s.stackWord w k).toNat < 2 ^ bitsOf w := by
  cases w with
  | w8 => exact (wordOfByte_toNat _).trans_lt (BitVec.isLt _)
  | w16 => exact BitVec.isLt _

/-- A register merged with a value of the stack receives it. -/
theorem mergeLow_stackWord_receives (s : State) (w : Width) (k : Nat) (old : Word) :
    receives w old (mergeLow w old (s.stackWord w k)) (s.stackNumber w k) :=
  stackWord_toNat s w k ▸ mergeLow_receives_of_lt w old _ (stackWord_lt s w k)

/-- N and Z of a register merged with a value of the stack are those of the value. -/
theorem withNZ_stackWord_flagsNZ (s : State) (w : Width) (k : Nat) (old : Word) (p : PS) :
    flagsNZ w (s.stackNumber w k) (p.withNZ w (mergeLow w old (s.stackWord w k))) := by
  apply withNZ_flagsNZ_of
  rw [lowBits_mergeLow, lowBits_of_lt _ _ (stackWord_lt s w k), stackWord_toNat]

/-- The state with one register loaded from the bytes `k` above the next byte to be pulled: A and B of width `mw`, X and Y of
width `xw`. -/
def State.loadReg (s : State) (mw xw : Width) (k : Nat) : Reg → State
  | .a => s.setAcc .a mw (s.stackWord mw k)
  | .b => s.setAcc .b mw (s.stackWord mw k)
  | .x => s.setX xw (s.stackWord xw k)
  | .y => s.setY xw (s.stackWord xw k)
  | .dpr => s.setDpr (s.stackWord .w16 k)
  | .dt => s.setDt (s.stackByte (k + 1))
  | .pg => s.setPg (s.stackByte (k + 1))
  | .ps => s.setPs (PS.ofBytes (s.stackByte (k + 2)) (s.stackByte (k + 1)))

theorem loadReg_onlyChanges (s : State) (mw xw : Width) (k : Nat) (r : Reg) :
    onlyChanges r.parts s (s.loadReg mw xw k r) := by
  cases r with
  | a => exact setAcc_onlyChanges s .a mw _
  | b => exact setAcc_onlyChanges s .b mw _
  | x => exact setX_onlyChanges s xw _
  | y => exact setY_onlyChanges s xw _
  | dpr => exact setDpr_onlyChanges s _
  | dt => exact setDt_onlyChanges s _
  | pg => exact setPg_onlyChanges s _
  | ps => exact setPs_onlyChanges s _

/-! Pulling a register -/

/-- The state after the pull of a register. -/
def State.pulled (s : State) (mw xw : Width) (r : Reg) : State := (s.loadReg mw xw 0 r).raised (pullSize mw xw r)

theorem pullData_eq_stackWord (s : State) (w : Width) (can : s.canPull (bytesOf w) s.sp = true) :
    s.pullData w = .ok (s.stackWord w 0, s.raised (bytesOf w)) := by
  cases w with
  | w8 =>
    rw [State.pullData, s.pull8_raised can]
    rfl
  | w16 => exact s.pull16_ok can

theorem pullReg_eq_pulled (s : State) (mw xw : Width) (r : Reg) (can : s.canPull (pullSize mw xw r) s.sp = true) :
    s.pullReg mw xw r = .ok (s.pulled mw xw r) := by
  cases r with
  | a | b =>
    rw [State.pullReg, pullData_eq_stackWord s mw can]
    rfl
  | x | y =>
    rw [State.pullReg, pullData_eq_stackWord s xw can]
    rfl
  | dpr =>
    rw [State.pullReg, s.pull16_ok can]
    rfl
  | dt | pg =>
    rw [State.pullReg, s.pull8_raised can]
    rfl
  | ps =>
    simp only [State.pullReg, s.pull16_ok can, res_ok_bind, highByte_wordOf, lowByte_wordOf]
    rfl

theorem pulled_onlyChanges (s : State) (mw xw : Width) (r : Reg) :
    onlyChanges (r.parts ++ [.sp]) s (s.pulled mw xw r) :=
  (loadReg_onlyChanges s mw xw 0 r).append (raised_onlyChanges _ _)

theorem pulled_sp (s : State) (mw xw : Width) (r : Reg) :
    (s.pulled mw xw r).sp = s.sp + BitVec.ofNat 16 (pullSize mw xw r) := by
  cases r <;> rfl

/-! The single pulls -/

/-- The flags that the single pull of a register writes from it (R240 to R246). -/
def Reg.flagParts : Reg → List Part
  | .a | .b | .x | .y | .dt => [.flagN, .flagZ]
  | .dpr | .pg | .ps => []

theorem pullFlags_onlyChanges (s : State) (mw xw : Width) (r : Reg) :
    onlyChanges r.flagParts s (s.pullFlags mw xw r) := by
  cases r with
  | a | b | x | y | dt => exact setNZ_onlyChanges s _ _
  | dpr | pg | ps => exact onlyChanges_refl s

/-- The state that the single pull of a register leaves before it moves past itself. -/
def State.pulledFlagged (s : State) (r : Reg) : State := (s.pulled s.mw s.xw r).pullFlags s.mw s.xw r

theorem pulledFlagged_onlyChanges (s : State) (r : Reg) :
    onlyChanges (r.parts ++ [.sp] ++ r.flagParts) s (s.pulledFlagged r) :=
  (pulled_onlyChanges s _ _ r).append (pullFlags_onlyChanges _ _ _ r)

theorem pulledFlagged_sp (s : State) (r : Reg) :
    (s.pulledFlagged r).sp = s.sp + BitVec.ofNat 16 (pullSize s.mw s.xw r) := by
  cases r <;> rfl

/-- The width of a register, A and B of width `mw`, X and Y of width `xw` (R240 to R246). -/
def Reg.width (mw xw : Width) : Reg → Width
  | .a | .b => mw
  | .x | .y => xw
  | .dt | .pg => .w8
  | .dpr | .ps => .w16

/-- N and Z are those of the value pulled, for every register whose single pull writes them. -/
theorem pulledFlagged_flagsNZ (s : State) {r : Reg} (writes : r.flagParts ≠ []) :
    flagsNZ (r.width s.mw s.xw) (s.stackNumber (r.width s.mw s.xw) 0) (s.pulledFlagged r).ps := by
  cases r with
  | a => exact withNZ_stackWord_flagsNZ s s.mw 0 s.a s.ps
  | b => exact withNZ_stackWord_flagsNZ s s.mw 0 s.b s.ps
  | x => exact withNZ_stackWord_flagsNZ s s.xw 0 s.x s.ps
  | y => exact withNZ_stackWord_flagsNZ s s.xw 0 s.y s.ps
  | dt =>
    exact withNZ_flagsNZ_of s.ps .w8 (s.stackWord .w8 0) _
      ((lowBits_of_lt .w8 _ (stackWord_lt s .w8 0)).trans (stackWord_toNat s .w8 0))
  | dpr | pg | ps => exact absurd rfl writes

/-- The single pull of a register other than PG, where the processor mode allows the DT it ends with. -/
theorem pull_completes {s : State} {i : Instr} {r : Reg} (run : exec i s = opPull r s)
    (length : s.lengthOf i = r.stackLength) (notPg : r ≠ .pg) (can : s.canPull (pullSize s.mw s.xw r) s.sp = true)
    (go : s.mayGoTo (s.nextPC (s.lengthOf i)) (s.pulledFlagged r).dt = true) :
    let t := (s.pulledFlagged r).advance (s.lengthOf i)
    exec i s = .next t ∧
      (r.flagParts ≠ [] → flagsNZ (r.width s.mw s.xw) (s.stackNumber (r.width s.mw s.xw) 0) t.ps) ∧
      t.sp = s.sp + BitVec.ofNat 16 (pullSize s.mw s.xw r) ∧ passes i s t ∧
      onlyChanges (r.parts ++ [.sp] ++ r.flagParts ++ [.pc, .pg]) s t := by
  have keeps : ∀ p ∈ [Part.cfg, .pc, .pg], p ∉ r.parts ++ [.sp] ++ r.flagParts := by
    cases r with
    | pg => exact absurd rfl notPg
    | a | b | x | y | dpr | dt | ps => decide
  obtain ⟨done, passed, only⟩ := advance_completes_of_dt (pulledFlagged_onlyChanges s r) keeps go
  refine ⟨?_, pulledFlagged_flagsNZ s, pulledFlagged_sp s r, passed, only⟩
  rw [run, ← done, length]
  exact complete_bind_ok (pullReg_eq_pulled s _ _ r can) _

/-- The single pull of a register other than PG and DT, where the processor mode lets the machine go on. -/
theorem pull_completes_of_mayContinue {s : State} {i : Instr} {r : Reg} (go : s.mayContinue i = true)
    (run : exec i s = opPull r s) (length : s.lengthOf i = r.stackLength) (notBank : r ≠ .pg ∧ r ≠ .dt)
    (can : s.canPull (pullSize s.mw s.xw r) s.sp = true) :
    let t := (s.pulledFlagged r).advance (s.lengthOf i)
    exec i s = .next t ∧
      (r.flagParts ≠ [] → flagsNZ (r.width s.mw s.xw) (s.stackNumber (r.width s.mw s.xw) 0) t.ps) ∧
      t.sp = s.sp + BitVec.ofNat 16 (pullSize s.mw s.xw r) ∧ passes i s t ∧
      onlyChanges (r.parts ++ [.sp] ++ r.flagParts ++ [.pc, .pg]) s t := by
  obtain ⟨notPg, notDt⟩ := notBank
  have dt : (s.pulledFlagged r).dt = s.dt := by
    cases r with
    | dt => exact absurd rfl notDt
    | a | b | x | y | dpr | pg | ps => rfl
  exact pull_completes run length notPg can (dt ▸ go)

end Sys2Proof.Machine

/-! SUPPORT. Proof of the statement about the single pulls (45_stack.md R240 to R246). -/

namespace Sys2Proof.Machine

/-- Settles O43: each pull loads its register from the bytes above S; all but PLD and PLP then set N and Z from it. -/
theorem singlePulls : Obligations.SinglePulls := by
  intro s
  simp only [List.forall_mem_cons, List.not_mem_nil, false_imp_iff, implies_true, and_true]
  refine ⟨⟨⟨?_, ?pla⟩, ⟨?_, ?plb⟩⟩, ⟨⟨?_, ?plx⟩, ⟨?_, ?ply⟩⟩, ?_, ?plt, ?_, ?pld, ?_, ?plp⟩
  case pla | plb | plx | ply =>
    intro can go
    obtain ⟨done, flags, raised, passed, only⟩ := pull_completes_of_mayContinue go rfl rfl (by decide) can
    exact ⟨_, done, mergeLow_stackWord_receives s _ 0 _, flags (by decide), raised, passed, only.mono (by decide)⟩
  case plt =>
    intro can go
    obtain ⟨done, flags, raised, passed, only⟩ := pull_completes (i := .plt) (r := .dt) rfl rfl (by decide) can go
    exact ⟨_, done, rfl, flags (by decide), raised, passed, only.mono (by decide)⟩
  case pld =>
    intro can go
    obtain ⟨done, -, raised, passed, only⟩ := pull_completes_of_mayContinue go rfl rfl (by decide) can
    exact ⟨_, done, stackWord_toNat s .w16 0, raised, passed, only.mono (by decide)⟩
  case plp =>
    intro can go
    obtain ⟨done, -, raised, passed, only⟩ := pull_completes_of_mayContinue go rfl rfl (by decide) can
    exact ⟨_, done, PS.ofBytes_low _ _, PS.ofBytes_ipl _ _, raised, passed, only.mono (by decide)⟩
  all_goals exact Entry.encoded_of_encode _ (fun _ _ => rfl) (fun _ _ => rfl) rfl

end Sys2Proof.Machine

/-! SUPPORT. What PUL makes of the state: the registers that its mask selects, each loaded from its own place above S, the others
as they were, and BH (R254). -/

namespace Sys2Proof.Machine

/-! The registers of a list -/

/-- The state after the pull of a register if the mask selects it. -/
def State.pulledIf (mw xw : Width) (nn : Byte) (s : State) (c : Nat × Reg) : State :=
  if nn.getLsbD c.1 then s.pulled mw xw c.2 else s

/-- The state after the pulls of the selected registers of a list. -/
def State.pulledList (s : State) (mw xw : Width) (nn : Byte) (l : List (Nat × Reg)) : State :=
  l.foldl (State.pulledIf mw xw nn) s

theorem pulledIf_onlyChanges (s : State) (mw xw : Width) (nn : Byte) (c : Nat × Reg) :
    onlyChanges (c.2.parts ++ [.sp]) s (s.pulledIf mw xw nn c) := by
  rw [State.pulledIf]
  split
  · exact pulled_onlyChanges s mw xw c.2
  · exact (onlyChanges_refl s).mono (by simp)

theorem pulledIf_sp (s : State) (mw xw : Width) (nn : Byte) (c : Nat × Reg) :
    (s.pulledIf mw xw nn c).sp = s.sp + BitVec.ofNat 16 (if nn.getLsbD c.1 then pullSize mw xw c.2 else 0) := by
  rw [State.pulledIf]
  split
  · exact pulled_sp s mw xw c.2
  · exact (BitVec.add_zero _).symm

theorem pulledList_onlyChanges (s : State) (mw xw : Width) (nn : Byte) (l : List (Nat × Reg)) :
    onlyChanges (l.flatMap (fun c => c.2.parts) ++ [.sp]) s (s.pulledList mw xw nn l) := by
  induction l generalizing s with
  | nil => exact (onlyChanges_refl s).mono (by simp)
  | cons c rest ih =>
    refine ((pulledIf_onlyChanges s mw xw nn c).append (ih _)).mono fun p hp => ?_
    simp only [List.flatMap_cons, List.mem_append] at hp ⊢
    tauto

theorem pulledList_sp (s : State) (mw xw : Width) (nn : Byte) (l : List (Nat × Reg)) :
    (s.pulledList mw xw nn l).sp = s.sp + BitVec.ofNat 16 (listedPulls mw xw nn l) := by
  induction l generalizing s with
  | nil => exact (BitVec.add_zero _).symm
  | cons c rest ih =>
    have first := pulledIf_sp s mw xw nn c
    have others := ih (s.pulledIf mw xw nn c)
    rw [first, BitVec.add_assoc, ← BitVec.ofNat_add] at others
    exact others

theorem canPull_congr {s t : State} (cfg : t.cfg = s.cfg) (n : Nat) (sp : Word) : t.canPull n sp = s.canPull n sp := by
  induction n generalizing sp with
  | zero => rfl
  | succ n ih => simp only [State.canPull, State.canReadByte, State.kindAt, cfg, ih]

theorem pullSelected_ok (s : State) (mw xw : Width) (nn : Byte) (l : List (Nat × Reg))
    (can : s.canPull (listedPulls mw xw nn l) s.sp = true) :
    s.pullSelected mw xw nn l = .ok (s.pulledList mw xw nn l) := by
  induction l generalizing s with
  | nil => rfl
  | cons c rest ih =>
    have cfg : (s.pulledIf mw xw nn c).cfg = s.cfg := pulledIf_onlyChanges s mw xw nn c .cfg (by cases c.2 <;> decide)
    rw [listedPulls, State.canPull_append, Bool.and_eq_true, ← canPull_congr cfg _ (s.sp + _), ← pulledIf_sp] at can
    obtain ⟨canFirst, canRest⟩ := can
    have others := ih _ canRest
    rw [State.pulledIf] at others
    rw [State.pullSelected, State.pulledList, List.foldl_cons, State.pulledIf]
    split
    · next selected =>
      rw [if_pos selected] at canFirst others
      rw [pullReg_eq_pulled s mw xw c.2 canFirst]
      exact others
    · next skipped =>
      rw [if_neg skipped] at others
      exact others

/-- A register that is not in the list is as it was. -/
theorem pulledList_same_of_not_mem (s : State) (mw xw : Width) (nn : Byte) {l : List (Nat × Reg)} {r : Reg}
    (notMem : r ∉ l.map Prod.snd) : r.same s (s.pulledList mw xw nn l) := by
  intro p hp
  refine pulledList_onlyChanges s mw xw nn l p fun listed => ?_
  rcases List.mem_append.1 listed with listed | sp
  · obtain ⟨c, hc, owned⟩ := List.mem_flatMap.1 listed
    have other : c.2 ≠ r := fun e => notMem (e ▸ List.mem_map_of_mem hc)
    exact not_mem_parts_of_ne hp other owned
  · exact ne_sp_of_mem_parts hp (List.mem_singleton.1 sp)

/-! A register's own place on the stack -/

/-- Loading a register from `u`, whose S lies `k` bytes above that of `s`. -/
theorem loadReg_same {s u : State} {k : Nat} {r : Reg} (mw xw : Width) (old : r.same s u)
    (bytes : ∀ j, u.stackByte j = s.stackByte (k + j)) : r.same (s.loadReg mw xw k r) (u.loadReg mw xw 0 r) := by
  have word : ∀ w, u.stackWord w 0 = s.stackWord w k := by
    intro w
    cases w <;> simp only [State.stackWord, bytes, Nat.zero_add]
  cases r with
  | a => rw [same_a_iff] at old ⊢; exact congrArg₂ (mergeLow mw) old (word mw)
  | b => rw [same_b_iff] at old ⊢; exact congrArg₂ (mergeLow mw) old (word mw)
  | x => rw [same_x_iff] at old ⊢; exact congrArg₂ (mergeLow xw) old (word xw)
  | y => rw [same_y_iff] at old ⊢; exact congrArg₂ (mergeLow xw) old (word xw)
  | dpr => exact (same_dpr_iff _ _).2 (word .w16)
  | dt => exact (same_dt_iff _ _).2 (bytes 1)
  | pg => exact (same_pg_iff _ _).2 (bytes 1)
  | ps => exact (same_ps_iff _ _).2 (congrArg₂ PS.ofBytes (bytes 2) (bytes 1))

theorem pulledList_stackByte (s : State) (mw xw : Width) (nn : Byte) (l : List (Nat × Reg)) (j : Nat) :
    (s.pulledList mw xw nn l).stackByte j = s.stackByte (listedPulls mw xw nn l + j) := by
  have mem : Part.mem.same s (s.pulledList mw xw nn l) := by
    refine pulledList_onlyChanges s mw xw nn l .mem fun listed => ?_
    rcases List.mem_append.1 listed with listed | sp
    · obtain ⟨c, -, owned⟩ := List.mem_flatMap.1 listed
      cases owner_of_mem_parts owned
    · cases List.mem_singleton.1 sp
  rw [State.stackByte, mem, pulledList_sp, BitVec.add_assoc, ← BitVec.ofNat_add, State.stackByte]

/-- Where the registers of a list are distinct, each one that is selected is loaded from the bytes above those that the
registers before it take, and each one that is not is as it was. -/
theorem pulledList_reg (s : State) (mw xw : Width) (nn : Byte) {l pre post : List (Nat × Reg)} {c : Nat × Reg}
    (place : l = pre ++ c :: post) (distinct : (l.map Prod.snd).Nodup) :
    if nn.getLsbD c.1 then c.2.same (s.loadReg mw xw (listedPulls mw xw nn pre) c.2) (s.pulledList mw xw nn l)
    else c.2.same s (s.pulledList mw xw nn l) := by
  subst place
  rw [List.map_append, List.map_cons, List.nodup_middle, List.nodup_cons, List.mem_append, not_or] at distinct
  obtain ⟨⟨notPre, notPost⟩, -⟩ := distinct
  have before := pulledList_same_of_not_mem s mw xw nn notPre
  have after := pulledList_same_of_not_mem ((s.pulledList mw xw nn pre).pulledIf mw xw nn c) mw xw nn notPost
  have chain : s.pulledList mw xw nn (pre ++ c :: post) =
      ((s.pulledList mw xw nn pre).pulledIf mw xw nn c).pulledList mw xw nn post := by
    rw [State.pulledList, List.foldl_append, List.foldl_cons]
    rfl
  rw [chain]
  split
  · next selected =>
    have loaded := loadReg_same mw xw before (pulledList_stackByte s mw xw nn pre)
    have raised : c.2.same ((s.pulledList mw xw nn pre).loadReg mw xw 0 c.2) ((s.pulledList mw xw nn pre).pulled mw xw c.2) :=
      fun p hp => raised_onlyChanges _ _ p (by simpa using ne_sp_of_mem_parts hp)
    rw [State.pulledIf, if_pos selected] at after ⊢
    exact (loaded.trans raised).trans after
  · next skipped =>
    rw [State.pulledIf, if_neg skipped] at after ⊢
    exact before.trans after

/-! PUL -/

/-- The state after PUL's pulls, before BH is settled and the machine moves past it. -/
def State.restored (s : State) (nn : Byte) : State := s.pulledList s.mw s.xw nn pulOrder

theorem restored_reg (s : State) (nn : Byte) {pre post : List (Nat × Reg)} {c : Nat × Reg} (place : pulOrder = pre ++ c :: post) :
    if nn.getLsbD c.1 then c.2.same (s.loadReg s.mw s.xw (listedPulls s.mw s.xw nn pre) c.2) (s.restored nn)
    else c.2.same s (s.restored nn) :=
  pulledList_reg s s.mw s.xw nn place (by decide)

/-- PUL leaves BH a free value: m was 0 and the PS pulled has m = 1 (R254). -/
def State.opensB (s : State) (nn : Byte) : Prop :=
  s.ps.m = false ∧ nn.getLsbD 7 = true ∧ (s.stackByte 1).getLsbD 5 = true

theorem opensB_iff (s : State) (nn : Byte) :
    (!s.ps.m && nn.getLsbD 7 && (s.restored nn).ps.m) = true ↔ s.opensB nn := by
  rw [Bool.and_eq_true, Bool.and_eq_true, Bool.not_eq_true', and_assoc]
  refine and_congr_right fun _ => and_congr_right fun selected => ?_
  have ps := restored_reg s nn (pre := []) (c := (7, .ps)) rfl
  rw [if_pos selected, same_ps_iff] at ps
  rw [ps]
  rfl

/-- The state after PUL, before the machine moves past it. -/
def State.pulEffect (s : State) (nn : Byte) : State := (s.restored nn).pulledB s.ps.m nn

theorem pulEffect_of_not_opensB {s : State} {nn : Byte} (h : ¬ s.opensB nn) : s.pulEffect nn = s.restored nn :=
  if_neg (mt (opensB_iff s nn).1 h)

/-- A free BH leaves BL as PUL restored it. -/
theorem pulEffect_lowByte_b (s : State) (nn : Byte) : lowByte (s.pulEffect nn).b = lowByte (s.restored nn).b := by
  rw [State.pulEffect, State.pulledB]
  split
  · exact lowByte_wordOf _ _
  · rfl

theorem pulledB_onlyChanges (s : State) (m0 : Bool) (nn : Byte) : onlyChanges [.acc .b, .free] s (s.pulledB m0 nn) := by
  rw [State.pulledB]
  split
  · exact (setAcc_onlyChanges s .b .w16 _).append (drew_onlyChanges _)
  · exact (onlyChanges_refl s).mono (by simp)

theorem pulEffect_same {s : State} {nn : Byte} {r : Reg} (notB : r ≠ .b) : r.same (s.restored nn) (s.pulEffect nn) := by
  intro p hp
  refine pulledB_onlyChanges _ _ _ p fun listed => ?_
  have owned := owner_of_mem_parts hp
  rcases List.mem_cons.1 listed with rfl | listed
  · exact notB (Option.some.inj owned).symm
  · obtain rfl := List.mem_singleton.1 listed
    cases owned

/-- What PUL says of a register other than B: one thing where its bit is set, another where it is not. -/
theorem pulEffect_reg {s : State} {nn : Byte} {pre post : List (Nat × Reg)} {c : Nat × Reg} {P Q : Prop}
    (place : pulOrder = pre ++ c :: post) (notB : c.2 ≠ .b)
    (loaded : c.2.same (s.loadReg s.mw s.xw (listedPulls s.mw s.xw nn pre) c.2) (s.pulEffect nn) → P)
    (kept : c.2.same s (s.pulEffect nn) → Q) : if nn.getLsbD c.1 then P else Q := by
  have reg := restored_reg s nn place
  split
  · next selected =>
    rw [if_pos selected] at reg
    exact loaded (reg.trans (pulEffect_same notB))
  · next skipped =>
    rw [if_neg skipped] at reg
    exact kept (reg.trans (pulEffect_same notB))

/-- The parts that PUL may change before it moves past itself. -/
def pulParts : List Part := pulOrder.flatMap (fun c => c.2.parts) ++ [.sp] ++ [.acc .b, .free]

theorem pulEffect_onlyChanges (s : State) (nn : Byte) : onlyChanges pulParts s (s.pulEffect nn) :=
  (pulledList_onlyChanges s _ _ nn pulOrder).append (pulledB_onlyChanges _ _ _)

theorem pulEffect_sp (s : State) (nn : Byte) :
    (s.pulEffect nn).sp = s.sp + BitVec.ofNat 16 (listedPulls s.mw s.xw nn pulOrder) := by
  have settled : (s.pulEffect nn).sp = (s.restored nn).sp := pulledB_onlyChanges _ _ _ .sp (by decide)
  exact settled.trans (pulledList_sp s _ _ nn pulOrder)

theorem exec_pul {s : State} {nn : Byte} (clear : nn.getLsbD 6 = false)
    (can : s.canPull (listedPulls s.mw s.xw nn pulOrder) s.sp = true) :
    exec (.pul nn) s = complete (.ok ((s.pulEffect nn).advance 2)) := by
  have pulled : s.pullSelected s.mw s.xw nn pulOrder = .ok (s.restored nn) := pullSelected_ok s _ _ nn _ can
  change execPul nn s = _
  rw [execPul, clear, if_neg Bool.false_ne_true, pulled]
  rfl

/-- PUL with mask bit 6 clear, where the processor mode allows the DT it ends with. -/
theorem pul_completes {s : State} {nn : Byte} (clear : nn.getLsbD 6 = false)
    (can : s.canPull (listedPulls s.mw s.xw nn pulOrder) s.sp = true)
    (go : s.mayGoTo (s.nextPC 2) (s.pulEffect nn).dt = true) :
    let t := (s.pulEffect nn).advance 2
    exec (.pul nn) s = .next t ∧ passes (.pul nn) s t ∧ onlyChanges (pulParts ++ [.pc, .pg]) s t := by
  obtain ⟨done, passed, only⟩ :=
    advance_completes_of_dt (i := .pul nn) (pulEffect_onlyChanges s nn) (by decide) go
  exact ⟨(exec_pul clear can).trans done, passed, only⟩

theorem exec_pul_programBank (s : State) {nn : Byte} (set : nn.getLsbD 6 = true) :
    exec (.pul nn) s = .refused .pulProgramBank := by
  change execPul nn s = _
  rw [execPul, if_pos set, complete_error]

theorem lowByte_mergeLow_stackWord (s : State) (w : Width) (k : Nat) (old : Word) :
    lowByte (mergeLow w old (s.stackWord w k)) = s.stackByte (k + 1) := by
  cases w <;> simp [mergeLow, State.stackWord]

end Sys2Proof.Machine

/-! SUPPORT. Proof of the statement about PUL (45_stack.md R254). -/

namespace Sys2Proof.Machine

/-- Settles O46: each register is loaded from the place that the registers before it in the order leave it; B apart from BH. -/
theorem pullSelected : Obligations.PullSelected := by
  intro s nn below total dt openB
  refine ⟨fun clear can go => ?restores, exec_pul_programBank s⟩
  have regDt : (s.pulEffect nn).dt = dt :=
    (apply_ite ((s.pulEffect nn).dt = ·) _ _ _).mpr
      (pulEffect_reg (pre := pulOrder.take 1) (c := (5, .dt)) rfl (by decide) (same_dt_iff _ _).1 (same_dt_iff _ _).1)
  have regB := restored_reg s nn (pre := pulOrder.take 5) (c := (1, .b)) rfl
  rw [same_b_iff, same_b_iff] at regB
  obtain ⟨done, passed, only⟩ := pul_completes clear can (regDt ▸ go)
  refine ⟨_, done, ?ps, regDt, ?dpr, ?y, ?x, fun closed => ?b, fun _ => ?bl, ?a, pulEffect_sp s nn, passed, only.mono (by decide)⟩
  case ps =>
    refine pulEffect_reg (pre := []) (c := (7, .ps)) rfl (by decide) (fun loaded => ?_) (same_ps_iff _ _).1
    have ps : (s.pulEffect nn).ps = PS.ofBytes (s.stackByte 2) (s.stackByte 1) := (same_ps_iff _ _).1 loaded
    rw [State.advance_ps, ps]
    exact ⟨PS.ofBytes_low _ _, PS.ofBytes_ipl _ _⟩
  case dpr =>
    refine pulEffect_reg (pre := pulOrder.take 2) (c := (4, .dpr)) rfl (by decide) (fun loaded => ?_) (same_dpr_iff _ _).1
    rw [State.advance_dpr, (same_dpr_iff _ _).1 loaded]
    exact stackWord_toNat s .w16 _
  case y =>
    refine pulEffect_reg (pre := pulOrder.take 3) (c := (3, .y)) rfl (by decide) (fun loaded => ?_) (same_y_iff _ _).1
    rw [State.advance_y, (same_y_iff _ _).1 loaded]
    exact mergeLow_stackWord_receives s _ _ _
  case x =>
    refine pulEffect_reg (pre := pulOrder.take 4) (c := (2, .x)) rfl (by decide) (fun loaded => ?_) (same_x_iff _ _).1
    rw [State.advance_x, (same_x_iff _ _).1 loaded]
    exact mergeLow_stackWord_receives s _ _ _
  case b =>
    rw [State.advance_b, pulEffect_of_not_opensB closed]
    split
    · next selected =>
      rw [if_pos selected] at regB
      exact regB ▸ mergeLow_stackWord_receives s _ _ _
    · next skipped =>
      rw [if_neg skipped] at regB
      exact regB
  case bl =>
    rw [State.advance_b, pulEffect_lowByte_b]
    split
    · next selected =>
      rw [if_pos selected] at regB
      exact regB ▸ lowByte_mergeLow_stackWord s _ _ _
    · next skipped =>
      rw [if_neg skipped] at regB
      exact congrArg lowByte regB
  case a =>
    refine pulEffect_reg (pre := pulOrder.take 6) (c := (0, .a)) rfl (by decide) (fun loaded => ?_) (same_a_iff _ _).1
    rw [State.advance_a, (same_a_iff _ _).1 loaded]
    exact mergeLow_stackWord_receives s _ _ _

end Sys2Proof.Machine

/-! SUPPORT. PUL after PSH with the same mask: each register finds its own bytes on the stack (R253, R254). -/

namespace Sys2Proof.Machine

/-! A register whose own bytes lie on the stack -/

/-- The bytes that a push of `bytes` stores lie `k` bytes above the next byte to be pulled. -/
def State.holds (s : State) (bytes : List Byte) (k : Nat) : Prop :=
  ∀ j, j < bytes.length → some (s.stackByte (k + j + 1)) = bytes.reverse[j]?

theorem holds_byte {s : State} {v : Byte} {k : Nat} (h : s.holds [v] k) : s.stackByte (k + 1) = v :=
  Option.some.inj (h 0 (by simp))

theorem holds_pair {s : State} {hi lo : Byte} {k : Nat} (h : s.holds [hi, lo] k) :
    s.stackByte (k + 2) = hi ∧ s.stackByte (k + 1) = lo :=
  ⟨Option.some.inj (h 1 (by simp)), Option.some.inj (h 0 (by simp))⟩

theorem mergeLow_stackWord_of_holds {s : State} {w : Width} {v : Word} {k : Nat} (h : s.holds (pushedBytes w v) k) :
    mergeLow w v (s.stackWord w k) = v := by
  cases w with
  | w8 => rw [State.stackWord, holds_byte h, mergeLow, lowByte_wordOfByte, wordOf_highByte_lowByte]
  | w16 =>
    obtain ⟨high, low⟩ := holds_pair h
    rw [State.stackWord, high, low, mergeLow, wordOf_highByte_lowByte]

/-- Loading a register from its own bytes leaves it as it was. -/
theorem loadReg_same_of_holds {s : State} {r : Reg} {k : Nat} (h : s.holds (s.regBytes r) k) :
    r.same s (s.loadReg s.mw s.xw k r) := by
  cases r with
  | a => exact (same_a_iff _ _).2 (mergeLow_stackWord_of_holds h)
  | b => exact (same_b_iff _ _).2 (mergeLow_stackWord_of_holds h)
  | x => exact (same_x_iff _ _).2 (mergeLow_stackWord_of_holds h)
  | y => exact (same_y_iff _ _).2 (mergeLow_stackWord_of_holds h)
  | dpr =>
    obtain ⟨high, low⟩ := holds_pair h
    rw [same_dpr_iff, State.loadReg, State.setDpr_dpr, State.stackWord, high, low, wordOf_highByte_lowByte]
  | dt => exact (same_dt_iff _ _).2 (holds_byte h)
  | pg => exact (same_pg_iff _ _).2 (holds_byte h)
  | ps =>
    obtain ⟨high, low⟩ := holds_pair h
    rw [same_ps_iff, State.loadReg, State.setPs_ps, high, low, PS.ofBytes_high_low]

/-! What PSH leaves on the stack -/

theorem listedBytes_append (s : State) (nn : Byte) (l k : List (Nat × Reg)) :
    s.listedBytes nn (l ++ k) = s.listedBytes nn l ++ s.listedBytes nn k := by
  induction l with
  | nil => rfl
  | cons c rest ih => rw [List.cons_append, State.listedBytes, State.listedBytes, ih, List.append_assoc]

theorem listedBytes_reverse_cons (s : State) (nn : Byte) (c : Nat × Reg) (l : List (Nat × Reg)) :
    s.listedBytes nn (c :: l).reverse = s.listedBytes nn l.reverse ++ if nn.getLsbD c.1 then s.regBytes c.2 else [] := by
  rw [List.reverse_cons, listedBytes_append, State.listedBytes, State.listedBytes, List.append_nil]

/-- Registers are pulled with as many bytes as they were pushed with. -/
theorem listedBytes_reverse_length (s : State) (nn : Byte) (l : List (Nat × Reg)) :
    (s.listedBytes nn l.reverse).length = listedPulls s.mw s.xw nn l := by
  induction l with
  | nil => rfl
  | cons c rest ih =>
    rw [listedBytes_reverse_cons, List.length_append, ih, listedPulls, Nat.add_comm]
    split
    · rw [regBytes_length]
    · rfl

/-- With bit 6 clear PSH pushes in the reverse of the order in which PUL pulls (R253, R254). -/
theorem selectedBytes_eq_reverse (s : State) {nn : Byte} (clear : nn.getLsbD 6 = false) :
    s.selectedBytes nn = s.listedBytes nn pulOrder.reverse := by
  rw [← listedBytes_pshOrder]
  simp only [State.listedBytes, pshOrder, pulOrder, List.reverse_cons, List.reverse_nil, List.nil_append, List.cons_append,
    clear, Bool.false_eq_true, if_false]

theorem pushed_stackByte_reverse (s : State) {bytes : List Byte} (wf : s.mem.wf = true) (short : bytes.length ≤ 65536)
    {i : Nat} (hi : i < bytes.length) : some ((s.pushed bytes).stackByte (i + 1)) = bytes.reverse[i]? := by
  rw [List.getElem?_reverse hi, Nat.sub_right_comm]
  exact s.pushed_stackByte bytes wf short (i + 1) (Nat.le_add_left 1 i) hi

/-- After a list of registers is pushed in reverse, a selected one finds its bytes above those of the registers before it. -/
theorem pushed_holds {s : State} {nn : Byte} {pre post : List (Nat × Reg)} {c : Nat × Reg} (wf : s.mem.wf = true)
    (short : (s.listedBytes nn (pre ++ c :: post).reverse).length ≤ 65536) (selected : nn.getLsbD c.1 = true) :
    (s.pushed (s.listedBytes nn (pre ++ c :: post).reverse)).holds (s.regBytes c.2) (listedPulls s.mw s.xw nn pre) := by
  have order : s.listedBytes nn (pre ++ c :: post).reverse =
      s.listedBytes nn post.reverse ++ s.regBytes c.2 ++ s.listedBytes nn pre.reverse := by
    rw [List.reverse_append, listedBytes_append, listedBytes_reverse_cons, if_pos selected]
  have before := listedBytes_reverse_length s nn pre
  rw [order] at short ⊢
  intro j hj
  rw [pushed_stackByte_reverse s wf short (by simp only [List.length_append]; omega), List.reverse_append, List.reverse_append,
    List.getElem?_append_right (by rw [List.length_reverse, before]; exact Nat.le_add_right _ j), List.length_reverse, before,
    Nat.add_sub_cancel_left, List.getElem?_append_left (by rwa [List.length_reverse])]

/-! PUL after PSH -/

theorem saved_cfg (s : State) (nn : Byte) : (s.saved nn).cfg = s.cfg := by
  rw [State.saved, State.advance_cfg, State.pushed_cfg]

theorem saved_dt (s : State) (nn : Byte) : (s.saved nn).dt = s.dt := by
  rw [State.saved, State.advance_dt, State.pushed_dt]

theorem saved_mw (s : State) (nn : Byte) : (s.saved nn).mw = s.mw := by
  rw [State.saved, State.advance_mw, State.mw, State.mw, State.pushed_ps]

theorem saved_xw (s : State) (nn : Byte) : (s.saved nn).xw = s.xw := by
  rw [State.saved, State.advance_xw, State.xw, State.xw, State.pushed_ps]

theorem psh_completes {s : State} {nn : Byte} (can : s.canPush 2 (s.selectedBytes nn).length s.sp = true)
    (go : s.mayContinue (.psh nn) = true) :
    exec (.psh nn) s = .next (s.saved nn) ∧ (s.saved nn).pcAddr = s.nextPC 2 ∧
      onlyChanges [.mem, .sp, .pc, .pg] s (s.saved nn) := by
  obtain ⟨done, passed, only⟩ :=
    advance_completes (i := .psh nn) (pushed_onlyChanges s (s.selectedBytes nn)) (by decide) go
  exact ⟨(exec_psh can).trans done, passed, only⟩

theorem advance_regBytes (s : State) (n : Nat) {r : Reg} (notPg : r ≠ .pg) : (s.advance n).regBytes r = s.regBytes r := by
  cases r with
  | pg => exact absurd rfl notPg
  | a | b | x | y | dpr | dt | ps => rfl

theorem advance_holds (s : State) (n : Nat) (bytes : List Byte) (k : Nat) :
    (s.advance n).holds bytes k ↔ s.holds bytes k := Iff.rfl

theorem saved_regBytes (s : State) (nn : Byte) {r : Reg} (notPg : r ≠ .pg) : (s.saved nn).regBytes r = s.regBytes r := by
  rw [State.saved, advance_regBytes _ 2 notPg, pushed_regBytes]

/-- Every register that PUL restores is as PSH found it, whether the mask selects it or not. -/
theorem saved_restored_same {s : State} {nn : Byte} (wf : s.mem.wf = true) (clear : nn.getLsbD 6 = false) {c : Nat × Reg}
    (mem : c ∈ pulOrder) : c.2.same (s.saved nn) ((s.saved nn).restored nn) := by
  have notPg : c.2 ≠ .pg := (by decide : ∀ c ∈ pulOrder, c.2 ≠ .pg) c mem
  obtain ⟨pre, post, place⟩ := List.append_of_mem mem
  have reg := restored_reg (s.saved nn) nn place
  split at reg
  · next selected =>
    have bytes := selectedBytes_eq_reverse s clear
    have short := selectedBytes_length_le s nn
    rw [place] at bytes
    rw [bytes] at short
    have own : (s.saved nn).holds ((s.saved nn).regBytes c.2) (listedPulls (s.saved nn).mw (s.saved nn).xw nn pre) := by
      rw [saved_regBytes s nn notPg, saved_mw, saved_xw, State.saved, bytes, advance_holds]
      exact pushed_holds wf short selected
    exact (loadReg_same_of_holds own).trans reg
  · exact reg

theorem saved_restored_onlyChanges {s : State} {nn : Byte} (wf : s.mem.wf = true) (clear : nn.getLsbD 6 = false) :
    onlyChanges [.sp] (s.saved nn) ((s.saved nn).restored nn) := by
  intro p notSp
  by_cases listed : p ∈ pulOrder.flatMap fun c => c.2.parts
  · obtain ⟨c, mem, owned⟩ := List.mem_flatMap.1 listed
    exact saved_restored_same wf clear mem p owned
  · exact pulledList_onlyChanges _ _ _ nn pulOrder p (by simp only [List.mem_append, not_or]; exact ⟨listed, notSp⟩)

/-- The PS that PSH pushed has m as it is, so PUL draws no value for BH. -/
theorem saved_not_opensB {s : State} {nn : Byte} (wf : s.mem.wf = true) (clear : nn.getLsbD 6 = false) :
    ¬ (s.saved nn).opensB nn := by
  intro opens
  have m : ((s.saved nn).restored nn).ps.m = (s.saved nn).ps.m := saved_restored_onlyChanges wf clear .flagM (by decide)
  have drawn := (opensB_iff _ _).2 opens
  rw [m, opens.1] at drawn
  simp at drawn

theorem saved_pulEffect_onlyChanges {s : State} {nn : Byte} (wf : s.mem.wf = true) (clear : nn.getLsbD 6 = false) :
    onlyChanges [.sp] (s.saved nn) ((s.saved nn).pulEffect nn) := by
  rw [pulEffect_of_not_opensB (saved_not_opensB wf clear)]
  exact saved_restored_onlyChanges wf clear

theorem selectedBytes_length (s : State) {nn : Byte} (clear : nn.getLsbD 6 = false) :
    (s.selectedBytes nn).length = listedPulls s.mw s.xw nn pulOrder := by
  rw [selectedBytes_eq_reverse s clear, listedBytes_reverse_length]

theorem saved_canPull {s : State} {nn : Byte} (clear : nn.getLsbD 6 = false)
    (can : s.canPush 2 (s.selectedBytes nn).length s.sp = true) :
    (s.saved nn).canPull (listedPulls (s.saved nn).mw (s.saved nn).xw nn pulOrder) (s.saved nn).sp = true := by
  rw [saved_mw, saved_xw, ← selectedBytes_length s clear, canPull_congr (saved_cfg s nn),
    ← canPull_congr (State.pushed_cfg s (s.selectedBytes nn))]
  exact pushed_canPull_back (s.selectedBytes nn) can

theorem saved_pulEffect_sp (s : State) {nn : Byte} (clear : nn.getLsbD 6 = false) :
    ((s.saved nn).pulEffect nn).sp = s.sp := by
  rw [pulEffect_sp, saved_mw, saved_xw, ← selectedBytes_length s clear]
  exact pushed_raised_sp s (s.selectedBytes nn)

end Sys2Proof.Machine

/-! SUPPORT. Proof of the statement about PSH and PUL together (45_stack.md R254). -/

namespace Sys2Proof.Machine

/-- Settles O47: PUL finds the bytes of each register where PSH left them, so that between the two only S changes and comes
back. -/
theorem pushThenPull : Obligations.PushThenPull := by
  intro s nn wf clear can goPush goPull
  obtain ⟨pushed, next, only⟩ := psh_completes can goPush
  have effect := saved_pulEffect_onlyChanges wf clear
  have dt : ((s.saved nn).pulEffect nn).dt = (s.saved nn).dt := effect .dt (by decide)
  have after : (s.saved nn).nextPC 2 = s.nextPC 2 + 2 := by
    rw [State.nextPC, next]
    rfl
  obtain ⟨pulled, passed, -⟩ := pul_completes clear (saved_canPull clear can) (by
    rw [State.mayGoTo, dt, after, saved_cfg, saved_dt]
    exact goPull)
  have frame := (only.append effect).append (advance_onlyChanges _ 2)
  have sp : (((s.saved nn).pulEffect nn).advance 2).sp = s.sp := (State.advance_sp _ 2).trans (saved_pulEffect_sp s clear)
  exact ⟨s.saved nn, ((s.saved nn).pulEffect nn).advance 2, pushed, pulled, passed.trans after,
    frame.drop (q := .sp) sp (by simp)⟩

end Sys2Proof.Machine

/-! SUPPORT. How the transfers end: the register written, N and Z of what was written, and the address after the instruction
(46_transfer.md). -/

namespace Sys2Proof.Machine

/-- An effect `u` on listed parts, with N and Z from the low `w` bits of `v`, after which the machine moves past the
instruction. -/
theorem withNZ_completes {l : List Part} {s u : State} {i : Instr} {w : Width} {v : Word} (only : onlyChanges l s u)
    (keeps : ∀ p ∈ endParts, p ∉ l) (go : s.mayContinue i = true) :
    let t := (u.setNZ w v).advance (s.lengthOf i)
    complete (.ok t) = .next t ∧ flagsNZ w (lowBits w v) t.ps ∧ passes i s t ∧
      onlyChanges (l ++ [.flagN, .flagZ, .pc, .pg]) s t := by
  have flagsKeep : ∀ p ∈ endParts, p ∉ [Part.flagN, .flagZ] := by decide
  obtain ⟨done, passed, only'⟩ := advance_completes (only.append (setNZ_onlyChanges u w v))
    (fun p hp => List.mem_append.not.2 (not_or.2 ⟨keeps p hp, flagsKeep p hp⟩)) go
  exact ⟨done, withNZ_flagsNZ u.ps w v, passed, only'.mono (by simp)⟩

/-- A transfer of `v`, whose low bits are `n`, to an accumulator (R268 to R271, R273, R274, R277, R278). -/
theorem toAcc_completes {s : State} {i : Instr} {r : Acc} {v : Word} {n : Nat}
    (run : exec i s = complete (.ok ((s.toAcc r v).advance (s.lengthOf i)))) (value : lowBits s.mw v = n)
    (go : s.mayContinue i = true) :
    ∃ t, exec i s = .next t ∧ receives s.mw (s.acc r) (t.acc r) n ∧ flagsNZ s.mw n t.ps ∧ passes i s t ∧
      onlyChanges [.acc r, .flagN, .flagZ, .pc, .pg] s t := by
  obtain ⟨done, flags, passed, only⟩ :=
    withNZ_completes (w := s.mw) (v := v) (setAcc_onlyChanges s r s.mw v) (by simp [endParts]) go
  refine ⟨_, run.trans done, ?_, value ▸ flags, passed, only⟩
  rw [State.advance_acc, State.setNZ_acc, State.setAcc_acc]
  exact mergeLow_receives_of _ _ _ _ value

/-- A transfer to X over the width of x (R264, R266, R272, R279). -/
theorem toX_completes {s : State} {i : Instr} {v : Word}
    (run : exec i s = complete (.ok ((s.toX v).advance (s.lengthOf i)))) (go : s.mayContinue i = true) :
    ∃ t, exec i s = .next t ∧ receives s.xw s.x t.x (lowBits s.xw v) ∧ flagsNZ s.xw (lowBits s.xw v) t.ps ∧
      passes i s t ∧ onlyChanges [.x, .flagN, .flagZ, .pc, .pg] s t := by
  obtain ⟨done, frame⟩ := withNZ_completes (w := s.xw) (v := v) (setX_onlyChanges s s.xw v) (by decide) go
  exact ⟨_, run.trans done, mergeLow_receives _ _ _, frame⟩

/-- A transfer to Y over the width of x (R265, R267, R276). -/
theorem toY_completes {s : State} {i : Instr} {v : Word}
    (run : exec i s = complete (.ok ((s.toY v).advance (s.lengthOf i)))) (go : s.mayContinue i = true) :
    ∃ t, exec i s = .next t ∧ receives s.xw s.y t.y (lowBits s.xw v) ∧ flagsNZ s.xw (lowBits s.xw v) t.ps ∧
      passes i s t ∧ onlyChanges [.y, .flagN, .flagZ, .pc, .pg] s t := by
  obtain ⟨done, frame⟩ := withNZ_completes (w := s.xw) (v := v) (setY_onlyChanges s s.xw v) (by decide) go
  exact ⟨_, run.trans done, mergeLow_receives _ _ _, frame⟩

/-- The exchange writes both accumulators from what the two held before it (R280). -/
theorem xab_completes {s : State} (go : s.mayContinue .xab = true) :
    ∃ t, exec .xab s = .next t ∧ receives s.mw s.a t.a (lowBits s.mw s.b) ∧ receives s.mw s.b t.b (lowBits s.mw s.a) ∧
      flagsNZ s.mw (lowBits s.mw s.b) t.ps ∧ passes .xab s t ∧
      onlyChanges [.acc .a, .acc .b, .flagN, .flagZ, .pc, .pg] s t := by
  obtain ⟨done, frame⟩ :=
    withNZ_completes (w := s.mw) (v := s.b) (setAccPair_onlyChanges s s.mw s.b s.a) (by decide) go
  exact ⟨_, done, mergeLow_receives _ _ _, mergeLow_receives _ _ _, frame⟩

/-- A transfer of a whole word to DPR (R260, R261). -/
theorem toDpr_completes {s : State} {i : Instr} {v : Word}
    (run : exec i s = complete (.ok ((s.setDpr v).advance (s.lengthOf i)))) (go : s.mayContinue i = true) :
    ∃ t, exec i s = .next t ∧ t.dpr = v ∧ passes i s t ∧ onlyChanges [.dpr, .pc, .pg] s t := by
  obtain ⟨done, frame⟩ := advance_completes (setDpr_onlyChanges s v) (by decide) go
  exact ⟨_, run.trans done, rfl, frame⟩

/-- A transfer of a whole word, whose value is `n`, to S (R262, R263, R275). -/
theorem toSp_completes {s : State} {i : Instr} {v : Word} {n : Nat}
    (run : exec i s = complete (.ok ((s.setSp v).advance (s.lengthOf i)))) (value : v.toNat = n)
    (go : s.mayContinue i = true) :
    ∃ t, exec i s = .next t ∧ t.sp.toNat = n ∧ passes i s t ∧ onlyChanges [.sp, .pc, .pg] s t := by
  obtain ⟨done, frame⟩ := advance_completes (setSp_onlyChanges s v) (by decide) go
  exact ⟨_, run.trans done, value, frame⟩

theorem lowBits_xi (s : State) (w : Width) : lowBits w s.xi = lowBits s.xw s.x % 2 ^ bitsOf w := by
  rw [lowBits, s.xi_toNat]

theorem lowBits_yi (s : State) (w : Width) : lowBits w s.yi = lowBits s.xw s.y % 2 ^ bitsOf w := by
  rw [lowBits, s.yi_toNat]

end Sys2Proof.Machine

/-! SUPPORT. Proofs of the statements about the transfers (46_transfer.md). -/

namespace Sys2Proof.Machine

/-- Settles O48: the transfers to one register differ in their source alone, and an index register is read over its own width. -/
theorem transfers : Obligations.Transfers := by
  intro s
  simp only [List.forall_mem_cons, List.not_mem_nil, false_imp_iff, implies_true, and_true]
  refine ⟨⟨⟨?_, ?tda⟩, ⟨?_, ?tdb⟩, ⟨?_, ?tsa⟩, ⟨?_, ?tsb⟩, ⟨?_, ?txa⟩, ⟨?_, ?txb⟩, ⟨?_, ?tya⟩, ?_, ?tyb⟩,
    ⟨⟨?_, ?tax⟩, ⟨?_, ?tbx⟩, ⟨?_, ?tsx⟩, ?_, ?tyx⟩, ⟨⟨?_, ?tay⟩, ⟨?_, ?tby⟩, ?_, ?txy⟩, ?_, xab_completes⟩
  case tda | tdb | tsa | tsb => exact toAcc_completes rfl rfl
  case txa | txb => exact toAcc_completes rfl (lowBits_xi s s.mw)
  case tya | tyb => exact toAcc_completes rfl (lowBits_yi s s.mw)
  case tax | tbx | tsx | tyx => exact toX_completes rfl
  case tay | tby | txy => exact toY_completes rfl
  all_goals exact Entry.encoded_of_encode _ (fun _ _ => rfl) (fun _ _ => rfl) rfl

/-- Settles O49: each writes a whole word; TXS writes the index value of X. -/
theorem transfersToBase : Obligations.TransfersToBase := by
  intro s
  simp only [List.forall_mem_cons, List.not_mem_nil, false_imp_iff, implies_true, and_true]
  refine ⟨⟨⟨?_, ?tad⟩, ?_, ?tbd⟩, ⟨?_, ?tas⟩, ⟨?_, ?tbs⟩, ?_, ?txs⟩
  case tad | tbd => exact toDpr_completes rfl
  case tas | tbs => exact toSp_completes rfl rfl
  case txs => exact toSp_completes rfl s.xi_toNat
  all_goals exact Entry.encoded_of_encode _ (fun _ _ => rfl) (fun _ _ => rfl) rfl

end Sys2Proof.Machine

/-! SUPPORT. How the flag instructions and SEB and CLB end: PS over the mask, the bits of the datum, and the address after the
instruction (47_flag_bit.md). -/

namespace Sys2Proof.Machine

/-! PSL under a mask -/

theorem withLow_low (p : PS) (b : Byte) : (p.withLow b).low = b := PS.ofBytes_low 0 b

theorem setPs_withLow_onlyChanges (s : State) (b : Byte) :
    onlyChanges [.flagN, .flagV, .flagM, .flagX, .flagD, .flagI, .flagZ, .flagC] s (s.setPs (s.ps.withLow b)) :=
  (setPs_onlyChanges s _).drop (q := .ipl) rfl (by simp)

/-- Clearing the bits that a mask selects. -/
theorem clear_getLsbD {w : Nat} (v mask : BitVec w) {k : Nat} (hk : k < w) :
    (v &&& ~~~mask).getLsbD k = if mask.getLsbD k then false else v.getLsbD k := by
  rw [BitVec.getLsbD_and, BitVec.getLsbD_not, decide_eq_true hk, Bool.true_and]
  cases mask.getLsbD k <;> simp

/-- Setting the bits that a mask selects. -/
theorem set_getLsbD {w : Nat} (v mask : BitVec w) (k : Nat) :
    (v ||| mask).getLsbD k = if mask.getLsbD k then true else v.getLsbD k := by
  rw [BitVec.getLsbD_or]
  cases mask.getLsbD k <;> simp

/-! The flag instructions -/

/-- An instruction that writes one flag of PS and moves past itself (R290 to R293, R295 to R297). -/
theorem setFlag_completes {s : State} {i : Instr} {flag : Part} {q : PS}
    (run : exec i s = complete (.ok ((s.setPs q).advance (s.lengthOf i)))) (only : onlyChanges [flag] s (s.setPs q))
    (keeps : flag ∉ endParts) (go : s.mayContinue i = true) :
    ∃ t, exec i s = .next t ∧ t.ps = q ∧ passes i s t ∧ onlyChanges [flag, .pc, .pg] s t := by
  obtain ⟨done, frame⟩ := advance_completes only (fun p hp => List.mem_singleton.not.2 fun e => keeps (e ▸ hp)) go
  exact ⟨_, run.trans done, rfl, frame⟩

/-- An instruction that writes PSL and moves past itself; `bits` says what each flag of PSL becomes (R294, R298). -/
theorem setPsl_completes {s : State} {i : Instr} {b : Byte} {flag : Nat → Bool}
    (run : exec i s = complete (.ok ((s.setPs (s.ps.withLow b)).advance (s.lengthOf i))))
    (bits : ∀ k < 8, b.getLsbD k = flag k) (go : s.mayContinue i = true) :
    ∃ t, exec i s = .next t ∧ (∀ k < 8, t.ps.low.getLsbD k = flag k) ∧ passes i s t ∧
      onlyChanges [.flagN, .flagV, .flagM, .flagX, .flagD, .flagI, .flagZ, .flagC, .pc, .pg] s t := by
  obtain ⟨done, passed, only⟩ := advance_completes (setPs_withLow_onlyChanges s b) (by decide) go
  refine ⟨_, run.trans done, fun k hk => ?_, passed, only⟩
  rw [State.advance_ps, State.setPs_ps, withLow_low]
  exact bits k hk

/-! SEB and CLB -/

/-- An instruction that writes the datum at the effective address of `o` back as `f` makes it, and moves past itself; `bits`
says what each bit of the datum becomes (R299, R300). -/
theorem changeBits_completes {s : State} {i : Instr} {f : Word → Word} {o : MemMode} {a : Addr} {bit : Nat → Bool → Bool}
    (run : exec i s = complete (s.ea o >>= fun b => s.readData s.mw b >>= fun v =>
      s.storeData (s.lengthOf i) s.mw b (f v) >>= fun t => pure (t.advance (s.lengthOf i))))
    (bits : ∀ (v : Word) (j : Nat), j < 16 → (f v).getLsbD j = bit j (v.getLsbD j)) (ea : s.ea o = .ok a)
    (wf : s.mem.wf = true) (store : s.canStore (s.lengthOf i) s.mw a = true) (go : s.mayContinue i = true) :
    ∃ t n, exec i s = .next t ∧ stores s.mw a n s t ∧
      (∀ j < bitsOf s.mw, n.testBit j = bit j ((s.number (bytesOf s.mw) a).testBit j)) ∧ passes i s t ∧
      onlyChanges [.mem, .pc, .pg] s t := by
  obtain ⟨v, read, value⟩ := s.readData_ok s.mw a (s.canRead_of_canStore _ _ _ store)
  obtain ⟨m, written, -, stored⟩ := s.storeData_ok _ s.mw a (f v) store wf
  obtain ⟨done, passed, only⟩ := advance_completes (i := i) (setMem_onlyChanges s m) (by decide) go
  have width : bitsOf s.mw ≤ 16 := by cases s.mw <;> decide
  refine ⟨(s.setMem m).advance (s.lengthOf i), (f v).toNat, ?ran, stored, fun j hj => ?_, passed, only⟩
  case ran =>
    rw [run, complete_bind_ok ea, complete_bind_ok read, complete_bind_ok written]
    exact done
  rw [← value]
  exact bits v j (hj.trans_le width)

end Sys2Proof.Machine

/-! SUPPORT. Proofs of the statements about the flag and memory-bit instructions (47_flag_bit.md). -/

namespace Sys2Proof.Machine

/-- Settles O50: CLC to SEM write one flag of PS; CLP and SEP write PSL, each flag as its bit of the mask says. -/
theorem flagInstructions : Obligations.FlagInstructions := by
  intro s
  simp only [List.forall_mem_cons, List.not_mem_nil, false_imp_iff, implies_true, and_true]
  refine ⟨⟨⟨?_, ?clc⟩, ⟨?_, ?cli⟩, ⟨?_, ?clm⟩, ⟨?_, ?clv⟩, ⟨?_, ?sec⟩, ⟨?_, ?sei⟩, ?_, ?sem⟩,
    fun imm => ⟨⟨?_, ?clp⟩, ?_, ?sep⟩⟩
  case clc | sec | cli | sei | clm | sem | clv =>
    exact setFlag_completes rfl (onlyChanges_of_parts _ _ _ fun p => by cases p <;> simp [Part.same]) (by decide)
  case clp => exact setPsl_completes rfl fun k hk => clear_getLsbD _ imm hk
  case sep => exact setPsl_completes rfl fun k _ => set_getLsbD _ imm k
  all_goals exact Entry.encoded_of_encode _ (fun _ _ => rfl) (fun _ _ => rfl) rfl

/-- Settles O51: both write the datum back with the selected bits set or cleared. -/
theorem memoryBits : Obligations.MemoryBits := by
  intro s o imm a ea wf
  simp only [List.forall_mem_cons, List.not_mem_nil, false_imp_iff, implies_true, and_true]
  exact ⟨changeBits_completes (bit := fun j v => if imm.getLsbD j then true else v) rfl
      (fun v j _ => set_getLsbD v imm j) ea wf,
    changeBits_completes (bit := fun j v => if imm.getLsbD j then false else v) rfl
      (fun v _ hj => clear_getLsbD v imm hj) ea wf⟩

end Sys2Proof.Machine

/-! SUPPORT. How MVN and MVP end: the registers, the frame and what the target bytes hold (48_block_misc.md R310, R311, R313). -/

namespace Sys2Proof.Machine

/-! The instructions -/

/-- The block transfer that counts up, or down (R310, R311). -/
def blockInstr (up : Bool) (n1 n2 : Byte) : Instr := if up then .mvn n1 n2 else .mvp n1 n2

theorem exec_blockInstr (up : Bool) (n1 n2 : Byte) (s : State) :
    exec (blockInstr up n1 n2) s = blockTransfer (directionOf up) n1 n2 s := by
  cases up <;> rfl

theorem lengthOf_blockInstr (s : State) (up : Bool) (n1 n2 : Byte) : s.lengthOf (blockInstr up n1 n2) = 3 := by
  cases up <;> rfl

theorem moveCount_eq (s : State) : s.moveCount = lowBits s.mw s.a := truncTo_toNat _ _

/-! The bytes of a block -/

/-- The address of byte `k` of the source. -/
def State.sourceAt (s : State) (w : Width) (up : Bool) (n2 : Byte) (k : Nat) : Addr :=
  addrOf n2 (BitVec.ofNat 16 (blockIndex w up s.x k))

/-- The address of byte `k` of the target. -/
def State.targetAt (s : State) (w : Width) (up : Bool) (n1 : Byte) (k : Nat) : Addr :=
  addrOf n1 (BitVec.ofNat 16 (blockIndex w up s.y k))

/-- Every source byte can be read and every target byte stored. -/
def State.canMove (s : State) (w : Width) (up : Bool) (n1 n2 : Byte) (n : Nat) : Prop :=
  ∀ k < n, s.canReadByte (s.sourceAt w up n2 k) = true ∧ s.canStoreByte 3 (s.targetAt w up n1 k) = true

/-- No target byte is read or stored again after it is stored. -/
def State.movesOnce (s : State) (w : Width) (up : Bool) (n1 n2 : Byte) (n : Nat) : Prop :=
  ∀ i j, i < j → j < n → s.sourceAt w up n2 j ≠ s.targetAt w up n1 i ∧ s.targetAt w up n1 j ≠ s.targetAt w up n1 i

section

variable {s q t : State} {w : Width} {up : Bool} {n1 n2 : Byte} {n : Nat}

theorem sourceAt_zero (width : s.xw = w) : s.sourceAt w up n2 0 = addrOf n2 s.xi :=
  congrArg (addrOf n2) (s.blockIndex_xi w up width)

theorem targetAt_zero (width : s.xw = w) : s.targetAt w up n1 0 = addrOf n1 s.yi :=
  congrArg (addrOf n1) (s.blockIndex_yi w up width)

theorem Moved.sourceAt (h : Moved s q w up 1) (k : Nat) : q.sourceAt w up n2 k = s.sourceAt w up n2 (k + 1) := by
  rw [State.sourceAt, blockIndex_succ w up s.x q.x k h.x, State.sourceAt]

theorem Moved.targetAt (h : Moved s q w up 1) (k : Nat) : q.targetAt w up n1 k = s.targetAt w up n1 (k + 1) := by
  rw [State.targetAt, blockIndex_succ w up s.y q.y k h.y, State.targetAt]

theorem Moved.xw (h : Moved s t w up n) : t.xw = s.xw := by rw [State.xw, State.xw, h.ps]

theorem Moved.mw (h : Moved s t w up n) : t.mw = s.mw := by rw [State.mw, State.mw, h.ps]

theorem Moved.canMove (h : Moved s q w up 1) (can : s.canMove w up n1 n2 (n + 1)) : q.canMove w up n1 n2 n := by
  intro k hk
  rw [h.sourceAt, h.targetAt]
  simp only [State.canReadByte, State.canStoreByte, State.inPrefetch, State.pcAddr, State.kindAt, h.cfg, h.pc, h.pg]
  exact can (k + 1) (Nat.succ_lt_succ hk)

theorem Moved.movesOnce (h : Moved s q w up 1) (once : s.movesOnce w up n1 n2 (n + 1)) : q.movesOnce w up n1 n2 n := by
  intro i j hij hj
  rw [h.sourceAt, h.targetAt, h.targetAt]
  exact once (i + 1) (j + 1) (Nat.succ_lt_succ hij) (Nat.succ_lt_succ hj)

/-- The loop with the source's own bytes: where no target byte is read or stored again, byte `k` of the target holds in the end
what byte `k` of the source held at the beginning. -/
theorem moveBytes_copies (width : s.xw = w) (can : s.canMove w up n1 n2 n) (once : s.movesOnce w up n1 n2 n)
    (wf : s.mem.wf = true) (ran : s.moveBytes (directionOf up) n1 n2 false n = .ok t) (k : Nat) (hk : k < n) :
    t.mem.get (s.targetAt w up n1 k) = s.mem.get (s.sourceAt w up n2 k) := by
  induction n generalizing s k with
  | zero => exact absurd hk (Nat.not_lt_zero k)
  | succ n ih =>
    obtain ⟨read, store⟩ := can 0 (Nat.succ_pos n)
    rw [sourceAt_zero width] at read
    rw [targetAt_zero width] at store
    obtain ⟨q, first, moved, mem⟩ := s.moveByte_ok up n1 n2 false w width read store
    rw [State.moveBytes, first, res_ok_bind] at ran
    rw [← targetAt_zero (up := up) width, ← sourceAt_zero (up := up) width, if_neg Bool.false_ne_true] at mem
    have width' := moved.xw.trans width
    cases k with
    | zero =>
      obtain ⟨t', ran', -, frame⟩ := q.moveBytes_ok up n1 n2 false n w width' (moved.canMove can)
      obtain rfl := Except.ok.inj (ran.symm.trans ran')
      have kept := frame (moved.wf wf) (s.targetAt w up n1 0) fun j hj => by
        have later := (once 0 (j + 1) (Nat.succ_pos j) (Nat.succ_lt_succ hj)).2
        rw [← moved.targetAt] at later
        exact later.symm
      rw [kept, mem, Memory.get_set _ _ _ _ wf, if_pos rfl]
    | succ k =>
      have later := ih width' (moved.canMove can) (moved.movesOnce once) (moved.wf wf) ran k (Nat.lt_of_succ_lt_succ hk)
      obtain ⟨unstored, -⟩ := once 0 (k + 1) (Nat.succ_pos k) hk
      rw [moved.targetAt, moved.sourceAt] at later
      rw [later, mem, Memory.get_set _ _ _ _ wf, if_neg unstored]

/-! The end of the transfer -/

theorem Moved.receives_x (h : Moved s t w up n) : receives w s.x t.x (blockIndex w up s.x n) := by
  refine ⟨blockIndex_lt w up s.x n, ?_⟩
  rw [← h.x, ← h.xHigh, lowBits, Nat.div_add_mod']

theorem Moved.receives_y (h : Moved s t w up n) : receives w s.y t.y (blockIndex w up s.y n) := by
  refine ⟨blockIndex_lt w up s.y n, ?_⟩
  rw [← h.y, ← h.yHigh, lowBits, Nat.div_add_mod']

theorem Moved.onlyChanges (h : Moved s t w up n) : onlyChanges [.x, .y, .mem, .free] s t := by
  obtain ⟨-, -, -, -, a, b, sp, pc, pg, dt, dpr, ps, run, pending, inputs, cfg, cycles, -, -⟩ := h
  refine onlyChanges_of_parts _ _ _ fun p => ?_
  cases p
  case acc r => cases r <;> simp [Part.same, State.acc, a, b]
  all_goals simp [Part.same, sp, pc, pg, dt, dpr, ps, run, pending, inputs, cfg, cycles]

end

theorem moveEnd_onlyChanges (s : State) (n1 : Byte) (count : Nat) :
    onlyChanges [.acc .a, .dt, .free] s (s.moveEnd n1 count) := by
  unfold State.moveEnd
  split
  · exact ((((setAcc_onlyChanges s .a s.mw _).append (drew_onlyChanges _)).append (setDt_onlyChanges _ _)).append
      (drew_onlyChanges _)).mono (by simp)
  · exact ((setAcc_onlyChanges s .a s.mw _).append (setDt_onlyChanges _ n1)).mono (by simp)

theorem moveEnd_moved (s : State) (n1 : Byte) {count : Nat} (moves : count ≠ 0) :
    s.moveEnd n1 count = (s.setAcc .a s.mw 0xFFFF).setDt n1 := if_neg moves

theorem moveEnd_zero (s : State) (n1 : Byte) :
    s.moveEnd n1 0 = ((s.setAcc .a s.mw s.drawn).drew.setDt (lowByte s.drew.drawn)).drew := if_pos rfl

theorem lowBits_allOnes (w : Width) : lowBits w 0xFFFF = 2 ^ bitsOf w - 1 := by cases w <;> rfl

/-- A receives some value of its width, after a transfer of bytes the largest one (R313). -/
theorem moveEnd_a (s : State) (n1 : Byte) (count : Nat) :
    ∃ q, receives s.mw s.a (s.moveEnd n1 count).a q ∧ (count ≠ 0 → q = 2 ^ bitsOf s.mw - 1) := by
  cases count with
  | zero =>
    rw [moveEnd_zero]
    exact ⟨_, mergeLow_receives s.mw s.a s.drawn, fun h => absurd rfl h⟩
  | succ n =>
    rw [moveEnd_moved s n1 (Nat.succ_ne_zero n)]
    exact ⟨_, mergeLow_receives s.mw s.a 0xFFFF, fun _ => lowBits_allOnes s.mw⟩

/-- A block transfer whose loop ends in `u`: it completes where the processor mode allows the target bank, and a free DT too
where nothing is moved. -/
theorem blockTransfer_completes {s u : State} {up : Bool} {n1 n2 : Byte}
    (ran : s.moveBytes (directionOf up) n1 n2 (s.moveOpen (directionOf up) n1 n2) s.moveCount = .ok u)
    (moved : Moved s u s.xw up s.moveCount) (go : s.mayGoTo (s.nextPC 3) n1 = true)
    (mode : s.cfg.mode = .singleChip → s.moveCount ≠ 0) :
    let t := (u.moveEnd n1 s.moveCount).advance 3
    exec (blockInstr up n1 n2) s = .next t ∧ passes (blockInstr up n1 n2) s t ∧
      onlyChanges [.acc .a, .x, .y, .dt, .mem, .pc, .pg, .free] s t := by
  have length := lengthOf_blockInstr s up n1 n2
  have legal : ¬ (s.cfg.mode = .singleChip ∧ n1 ≠ 0) := fun ⟨single, bank⟩ =>
    bank (((banksLegal_iff _ _ _).1 go) single).2
  have go' : s.mayGoTo (s.nextPC 3) (u.moveEnd n1 s.moveCount).dt = true := by
    by_cases zero : s.moveCount = 0
    · exact (banksLegal_iff _ _ _).2 fun single => absurd zero (mode single)
    · rw [moveEnd_moved u n1 zero]
      exact go
  rw [← length] at go'
  obtain ⟨done, passed, only⟩ :=
    advance_completes_of_dt (moved.onlyChanges.append (moveEnd_onlyChanges u n1 s.moveCount)) (by decide) go'
  rw [length] at done passed only
  refine ⟨?_, passed, only.mono (by simp)⟩
  rw [exec_blockInstr, blockTransfer, if_neg legal, complete_bind_ok ran]
  exact done

/-! Indices inside the range -/

theorem blockIndex_up {w : Width} {v : Word} {k : Nat} (inside : lowBits w v + k < 2 ^ bitsOf w) :
    blockIndex w true v k = lowBits w v + k := Nat.mod_eq_of_lt inside

theorem blockIndex_down {w : Width} {v : Word} {k : Nat} (inside : k ≤ lowBits w v) :
    blockIndex w false v k = lowBits w v - k := by
  have bound := lowBits_lt w v
  have positive := Nat.two_pow_pos (bitsOf w)
  have sum : lowBits w v + k * (2 ^ bitsOf w - 1) = lowBits w v - k + k * 2 ^ bitsOf w := by
    have le := Nat.le_mul_of_pos_right k positive
    rw [Nat.mul_sub_one]
    omega
  rw [blockIndex, if_neg Bool.false_ne_true, sum, Nat.add_mul_mod_self_right, Nat.mod_eq_of_lt (by omega)]

theorem addrOf_index_inj {b c : Byte} {i j : Nat} {w : Width} (hi : i < 2 ^ bitsOf w) (hj : j < 2 ^ bitsOf w)
    (h : addrOf b (BitVec.ofNat 16 i) = addrOf c (BitVec.ofNat 16 j)) : b = c ∧ i = j := by
  have range : 2 ^ bitsOf w ≤ 2 ^ 16 := by cases w <;> decide
  have bank := congrArg bankOf h
  have index := congrArg BitVec.toNat (congrArg offsetOf h)
  simp only [bankOf_addrOf] at bank
  simp only [offsetOf_addrOf, BitVec.toNat_ofNat, Nat.mod_eq_of_lt (hi.trans_le range),
    Nat.mod_eq_of_lt (hj.trans_le range)] at index
  exact ⟨bank, index⟩

/-- A block moves once where the indices of later bytes differ from those of earlier target bytes. -/
theorem movesOnce_of_index {s : State} {w : Width} {up : Bool} {n1 n2 : Byte} {n : Nat}
    (source : n1 = n2 → ∀ i j, i < j → j < n → blockIndex w up s.x j ≠ blockIndex w up s.y i)
    (target : ∀ i j, i < j → j < n → blockIndex w up s.y j ≠ blockIndex w up s.y i) : s.movesOnce w up n1 n2 n := by
  intro i j hij hj
  constructor
  · intro h
    obtain ⟨bank, index⟩ := addrOf_index_inj (blockIndex_lt ..) (blockIndex_lt ..) h
    exact source bank.symm i j hij hj index
  · intro h
    obtain ⟨-, index⟩ := addrOf_index_inj (blockIndex_lt ..) (blockIndex_lt ..) h
    exact target i j hij hj index

end Sys2Proof.Machine

/-! SUPPORT. A block transfer from its loop to its end, and the blocks inside the index range whose bytes it copies (R313). -/

namespace Sys2Proof.Machine

/-- A block transfer to its end, for both directions. -/
theorem block_completes {s : State} {up : Bool} {n1 n2 : Byte} (can : s.canMove s.xw up n1 n2 s.moveCount)
    (go : s.mayGoTo (s.nextPC 3) n1 = true) (mode : s.cfg.mode = .singleChip → s.moveCount ≠ 0) :
    ∃ u, s.moveBytes (directionOf up) n1 n2 (s.moveOpen (directionOf up) n1 n2) s.moveCount = .ok u ∧
      Moved s u s.xw up s.moveCount ∧
      (s.mem.wf = true → ∀ a, (∀ k < s.moveCount, a ≠ s.targetAt s.xw up n1 k) → u.mem.get a = s.mem.get a) ∧
      let t := (u.moveEnd n1 s.moveCount).advance 3
      exec (blockInstr up n1 n2) s = .next t ∧ passes (blockInstr up n1 n2) s t ∧
        onlyChanges [.acc .a, .x, .y, .dt, .mem, .pc, .pg, .free] s t := by
  obtain ⟨u, ran, moved, frame⟩ := s.moveBytes_ok up n1 n2 (s.moveOpen (directionOf up) n1 n2) s.moveCount s.xw rfl can
  exact ⟨u, ran, moved, frame, blockTransfer_completes ran moved go mode⟩

theorem moveEnd_mem_get (s : State) (n1 : Byte) (count : Nat) (a : Addr) :
    ((s.moveEnd n1 count).advance 3).mem.get a = s.mem.get a :=
  moveEnd_onlyChanges s n1 count .mem (by simp) a

/-- MVN moves byte 0 of `n` first, MVP the last one: which byte, counted upward, is the `k`-th that moves. -/
def placeOf (up : Bool) (n k : Nat) : Nat := if up then k else n - 1 - k

theorem placeOf_lt (up : Bool) {n k : Nat} (hk : k < n) : placeOf up n k < n := by
  cases up
  · exact (Nat.sub_le _ _).trans_lt (by omega)
  · exact hk

theorem placeOf_placeOf (up : Bool) {n k : Nat} (hk : k < n) : placeOf up n (placeOf up n k) = k := by
  cases up
  · exact Nat.sub_sub_self (by omega)
  · rfl

/-- The bytes of a block in the order of their addresses: `source k` to `target k`, in an order of moves in which none is read
or stored after it is stored, and with no overlap that leaves the target bytes open. -/
structure Copies (s : State) (up : Bool) (n1 n2 : Byte) (n : Nat) (source target : Nat → Addr) : Prop where
  source : ∀ k < n, s.sourceAt s.xw up n2 k = source (placeOf up n k)
  target : ∀ k < n, s.targetAt s.xw up n1 k = target (placeOf up n k)
  closed : s.moveOpen (directionOf up) n1 n2 = false
  once : s.movesOnce s.xw up n1 n2 n

/-- Such a block is copied, and no other byte changes. -/
theorem Copies.completes {s : State} {up : Bool} {n1 n2 : Byte} {source target : Nat → Addr}
    (h : Copies s up n1 n2 s.moveCount source target)
    (can : ∀ k < s.moveCount, s.canReadByte (source k) = true ∧ s.canStoreByte 3 (target k) = true)
    (wf : s.mem.wf = true) (go : s.mayGoTo (s.nextPC 3) n1 = true) (moves : s.moveCount ≠ 0) :
    ∃ t, exec (blockInstr up n1 n2) s = .next t ∧ (∀ k < s.moveCount, t.mem.get (target k) = s.mem.get (source k)) ∧
      ∀ a : Addr, (∀ k < s.moveCount, a ≠ target k) → t.mem.get a = s.mem.get a := by
  have can' : s.canMove s.xw up n1 n2 s.moveCount := fun k hk => by
    rw [h.source k hk, h.target k hk]
    exact can _ (placeOf_lt up hk)
  obtain ⟨u, ran, -, frame, done, -, -⟩ := block_completes can' go fun _ => moves
  rw [h.closed] at ran
  refine ⟨_, done, fun k hk => ?copied, fun a apart => ?kept⟩
  case copied =>
    have place := placeOf_lt up hk
    have copied := moveBytes_copies rfl can' h.once wf ran _ place
    rwa [h.source _ place, h.target _ place, placeOf_placeOf up hk, ← moveEnd_mem_get u n1 s.moveCount] at copied
  case kept =>
    rw [moveEnd_mem_get]
    refine frame wf a fun k hk => ?_
    rw [h.target k hk]
    exact apart _ (placeOf_lt up hk)

section

variable {s : State} {n1 n2 : Byte} {x y n : Nat} (hx : lowBits s.xw s.x = x) (hy : lowBits s.xw s.y = y)
  (hn : s.moveCount = n)

include hx hy hn

/-- MVN where the blocks are apart or the target does not lie above the source. -/
theorem copies_up (xInside : x + n ≤ 2 ^ bitsOf s.xw) (yInside : y + n ≤ 2 ^ bitsOf s.xw)
    (overlap : n1 = n2 → y ≤ x ∨ x + n ≤ y) :
    Copies s true n1 n2 n (fun k => addrOf n2 (BitVec.ofNat 16 (x + k))) fun k => addrOf n1 (BitVec.ofNat 16 (y + k)) := by
  have xAt : ∀ k < n, blockIndex s.xw true s.x k = x + k := fun k hk => by rw [blockIndex_up (by omega), hx]
  have yAt : ∀ k < n, blockIndex s.xw true s.y k = y + k := fun k hk => by rw [blockIndex_up (by omega), hy]
  refine ⟨fun k hk => by rw [State.sourceAt, xAt k hk]; rfl, fun k hk => by rw [State.targetAt, yAt k hk]; rfl, ?closed,
    movesOnce_of_index (fun bank i j hij hj => ?source) fun i j hij hj => ?target⟩
  case closed =>
    simp only [directionOf, if_true, State.moveOpen, s.xi_toNat, s.yi_toNat, hx, hy, hn, Bool.and_eq_false_imp, beq_iff_eq,
      decide_eq_true_eq, decide_eq_false_iff_not]
    intro bank above
    have := overlap bank
    omega
  case source =>
    rw [xAt j hj, yAt i (hij.trans hj)]
    have := overlap bank
    omega
  case target =>
    rw [yAt j hj, yAt i (hij.trans hj)]
    omega

/-- MVP where the blocks are apart or the target does not lie below the source. -/
theorem copies_down (xInside : n ≤ x + 1) (yInside : n ≤ y + 1) (overlap : n1 = n2 → x ≤ y ∨ y + n ≤ x) :
    Copies s false n1 n2 n (fun k => addrOf n2 (BitVec.ofNat 16 (x + 1 - n + k)))
      fun k => addrOf n1 (BitVec.ofNat 16 (y + 1 - n + k)) := by
  have xAt : ∀ k < n, blockIndex s.xw false s.x k = x - k := fun k hk => by rw [blockIndex_down (by omega), hx]
  have yAt : ∀ k < n, blockIndex s.xw false s.y k = y - k := fun k hk => by rw [blockIndex_down (by omega), hy]
  have place : ∀ v k, n ≤ v + 1 → k < n → v + 1 - n + placeOf false n k = v - k := fun v k hv hk => by
    rw [placeOf, if_neg Bool.false_ne_true]
    omega
  refine ⟨fun k hk => ?sourceAt, fun k hk => ?targetAt, ?closed,
    movesOnce_of_index (fun bank i j hij hj => ?source) fun i j hij hj => ?target⟩
  case sourceAt => rw [State.sourceAt, xAt k hk, place x k xInside hk]
  case targetAt => rw [State.targetAt, yAt k hk, place y k yInside hk]
  case closed =>
    simp only [directionOf, Bool.false_eq_true, if_false, State.moveOpen, s.xi_toNat, s.yi_toNat, hx, hy, hn,
      Bool.and_eq_false_imp, beq_iff_eq, decide_eq_true_eq, decide_eq_false_iff_not]
    intro bank below
    have := overlap bank
    omega
  case source =>
    rw [xAt j hj, yAt i (hij.trans hj)]
    have := overlap bank
    omega
  case target =>
    rw [yAt j hj, yAt i (hij.trans hj)]
    omega

end

end Sys2Proof.Machine

/-! SUPPORT. Proofs of the statements about NOP and the block transfers (48_block_misc.md). -/

namespace Sys2Proof.Machine

/-- Settles O54: NOP is the move past itself. -/
theorem noOperation : Obligations.NoOperation := by
  intro s
  refine ⟨Entry.encoded_of_encode _ (fun _ _ => rfl) (fun _ _ => rfl) rfl, fun go => ?_⟩
  obtain ⟨done, frame⟩ := advance_completes (onlyChanges_refl s) (by decide) go
  exact ⟨_, done, frame⟩

/-- Settles O52: both directions run the same loop, and its end writes A and DT. -/
theorem blockRegisters : Obligations.BlockRegisters := by
  intro s n1 n2 n w
  change ∀ p ∈ [true, false].map fun up => (blockInstr up n1 n2, up), _
  rw [List.forall_mem_map]
  intro up _ can wf go mode
  have count : s.moveCount = n := moveCount_eq s
  rw [← count] at can mode ⊢
  obtain ⟨u, -, moved, frame, done, passed, only⟩ := block_completes (up := up) can go mode
  obtain ⟨q, a, allOnes⟩ := moveEnd_a u n1 s.moveCount
  rw [moved.mw] at a allOnes
  rw [moved.a] at a
  have ends := moveEnd_onlyChanges u n1 s.moveCount
  refine ⟨_, done, ?x, ?y, fun moves => ⟨allOnes moves ▸ a, ?dt⟩, fun zero => ⟨fun b => ?nothing, q, a⟩, fun b apart => ?kept,
    passed, only⟩
  case x =>
    rw [State.advance_x, ends .x (by simp)]
    exact moved.receives_x
  case y =>
    rw [State.advance_y, ends .y (by simp)]
    exact moved.receives_y
  case dt => rw [State.advance_dt, moveEnd_moved u n1 moves, State.setDt_dt]
  case nothing =>
    rw [moveEnd_mem_get]
    exact frame wf b fun k hk => absurd (zero ▸ hk) (Nat.not_lt_zero k)
  case kept =>
    rw [moveEnd_mem_get]
    exact frame wf b apart

/-- Settles O53: inside the index range both directions move the bytes `target 0` to `target (n - 1)`, MVP from the last one
on, and no byte is stored that is still to be read. -/
theorem blockMemory : Obligations.BlockMemory := by
  intro s n1 n2 n x y byte target
  have count : s.moveCount = n := moveCount_eq s
  rw [List.forall_mem_cons, List.forall_mem_singleton]
  refine ⟨fun up _ can wf go moves => ?mvn, fun _ down can wf go moves => ?mvp⟩
  case mvn =>
    obtain ⟨xInside, yInside, overlap⟩ := up rfl
    have copies := copies_up (n1 := n1) (n2 := n2) rfl rfl count xInside yInside overlap
    rw [← count] at can moves copies ⊢
    exact copies.completes can wf go moves
  case mvp =>
    obtain ⟨xInside, yInside, overlap⟩ := down rfl
    have copies := copies_down (n1 := n1) (n2 := n2) rfl rfl count xInside yInside overlap
    rw [← count] at can moves copies ⊢
    exact copies.completes can wf go moves

end Sys2Proof.Machine

/-! SUPPORT. What a boundary and an accepted request make of the state, and which request a boundary accepts (R335 to R339). -/

namespace Sys2Proof.Machine

theorem setRun_onlyChanges (s : State) (r : RunState) : onlyChanges [.run] s (s.setRun r) :=
  onlyChanges_of_parts _ _ _ fun p => by cases p <;> simp [Part.same]

theorem setPending_onlyChanges (s : State) (l : List Nat) : onlyChanges [.pending] s (s.setPending l) :=
  onlyChanges_of_parts _ _ _ fun p => by cases p <;> simp [Part.same]

@[simp] theorem State.atBoundary_ps (s : State) : s.atBoundary.ps = s.ps := by
  unfold State.atBoundary
  split <;> rfl

@[simp] theorem State.atBoundary_mem (s : State) : s.atBoundary.mem = s.mem := by
  unfold State.atBoundary
  split <;> rfl

/-- A boundary uses up an input and collects its requests (R338). -/
theorem atBoundary_onlyChanges (s : State) : onlyChanges [.pending, .inputs] s s.atBoundary := by
  unfold State.atBoundary
  split
  · exact (onlyChanges_refl s).mono (by simp)
  · exact onlyChanges_of_parts _ _ _ fun p => by cases p <;> simp [Part.same, State.acc]

/-! The order of the requests (R335) -/

/-- Twice the level, and one more where the source is not maskable. -/
def rankOf (src : IntSource) : Nat := 2 * src.level.toNat + if src.maskable then 0 else 1

theorem goesBefore_iff (a b : IntSource) : goesBefore a b = true ↔ rankOf b < rankOf a := by
  simp only [goesBefore, rankOf, Bool.or_eq_true, decide_eq_true_eq, Bool.and_eq_true, beq_iff_eq, ← BitVec.toNat_inj]
  cases a.maskable <;> cases b.maskable <;> simp <;> omega

/-- The source `src` stands at position `j` of a list that begins at position `k`, with a pending and acceptable request. -/
def Ready (pending : List Nat) (p : PS) (k : Nat) (l : List IntSource) (j : Nat) (src : IntSource) : Prop :=
  k ≤ j ∧ l[j - k]? = some src ∧ j ∈ pending ∧ acceptable src p = true

/-- `src` at `j` is ready, and no ready source has a higher rank, nor the same rank at an earlier position. -/
structure First (pending : List Nat) (p : PS) (k : Nat) (l : List IntSource) (j : Nat) (src : IntSource) : Prop where
  ready : Ready pending p k l j src
  highest : ∀ i other, Ready pending p k l i other → rankOf other ≤ rankOf src
  earliest : ∀ i other, Ready pending p k l i other → rankOf other = rankOf src → j ≤ i

section

variable {pending : List Nat} {p : PS} {k : Nat} {src : IntSource} {rest : List IntSource}

theorem ready_cons_iff {j : Nat} {other : IntSource} :
    Ready pending p k (src :: rest) j other ↔
      (j = k ∧ other = src ∧ k ∈ pending ∧ acceptable src p = true) ∨ Ready pending p (k + 1) rest j other := by
  constructor
  · rintro ⟨le, at_, isPending, isAcceptable⟩
    obtain rfl | lt := Nat.eq_or_lt_of_le le
    · rw [Nat.sub_self, List.getElem?_cons_zero, Option.some_inj] at at_
      subst at_
      exact .inl ⟨rfl, rfl, isPending, isAcceptable⟩
    · rw [show j - k = j - (k + 1) + 1 by omega, List.getElem?_cons_succ] at at_
      exact .inr ⟨lt, at_, isPending, isAcceptable⟩
  · rintro (⟨rfl, rfl, isPending, isAcceptable⟩ | ⟨lt, at_, isPending, isAcceptable⟩)
    · exact ⟨le_rfl, by simp, isPending, isAcceptable⟩
    · refine ⟨by omega, ?_, isPending, isAcceptable⟩
      rwa [show j - k = j - (k + 1) + 1 by omega, List.getElem?_cons_succ]

/-- The head of a list is first where it is ready and no later source has a higher rank. -/
theorem first_head (isPending : k ∈ pending) (isAcceptable : acceptable src p = true)
    (le : ∀ i other, Ready pending p (k + 1) rest i other → rankOf other ≤ rankOf src) :
    First pending p k (src :: rest) k src where
  ready := ready_cons_iff.2 (.inl ⟨rfl, rfl, isPending, isAcceptable⟩)
  highest i other h := by
    obtain ⟨-, rfl, -⟩ | later := ready_cons_iff.1 h
    · exact le_rfl
    · exact le i other later
  earliest _ _ h _ := h.1

/-- The first of the later sources is first where the head is not ready or has a lower rank. -/
theorem First.cons {j : Nat} {other : IntSource} (h : First pending p (k + 1) rest j other)
    (head : k ∈ pending ∧ acceptable src p = true → rankOf src < rankOf other) :
    First pending p k (src :: rest) j other where
  ready := ready_cons_iff.2 (.inr h.ready)
  highest i third hi := by
    obtain ⟨-, rfl, ready⟩ | later := ready_cons_iff.1 hi
    · exact (head ready).le
    · exact h.highest i third later
  earliest i third hi same := by
    obtain ⟨-, rfl, ready⟩ | later := ready_cons_iff.1 hi
    · exact absurd same (head ready).ne
    · exact h.earliest i third later same

end

/-- What the choice answers: the first of the ready sources, or that none is ready (R335, R336). -/
def Chosen (pending : List Nat) (p : PS) (k : Nat) (l : List IntSource) : Option (Nat × IntSource) → Prop
  | none => ∀ j src, ¬ Ready pending p k l j src
  | some (j, src) => First pending p k l j src

theorem chooseFrom_chosen (pending : List Nat) (p : PS) (k : Nat) (l : List IntSource) :
    Chosen pending p k l (chooseFrom pending p k l) := by
  induction l generalizing k with
  | nil => exact fun j src h => by simpa using h.2.1
  | cons src rest ih =>
    have later := ih (k + 1)
    simp only [chooseFrom]
    split
    · next head =>
      obtain ⟨isPending, isAcceptable⟩ := head
      split
      · next none =>
        rw [none] at later
        exact first_head isPending isAcceptable fun i other h => absurd h (later i other)
      · next j other found =>
        rw [found] at later
        split
        · next before => exact First.cons later fun _ => (goesBefore_iff _ _).1 before
        · next notBefore =>
          rw [goesBefore_iff] at notBefore
          exact first_head isPending isAcceptable fun i third h => (later.highest i third h).trans (Nat.le_of_not_lt notBefore)
    · next head =>
      cases found : chooseFrom pending p (k + 1) rest with
      | none =>
        rw [found] at later
        intro j other h
        obtain ⟨-, -, ready⟩ | h := ready_cons_iff.1 h
        · exact head ready
        · exact later j other h
      | some c =>
        rw [found] at later
        exact First.cons later fun ready => absurd ready head

/-- R336 in the words of the statement. -/
theorem acceptable_iff (src : IntSource) (p : PS) :
    acceptable src p = true ↔ (src.maskable = true → p.i = false ∧ p.ipl.toNat < src.level.toNat) := by
  cases h : src.maskable <;> simp [acceptable, h]

theorem ready_zero_iff (s : State) (j : Nat) (src : IntSource) :
    Ready s.pending s.ps 0 s.cfg.intSources j src ↔
      s.cfg.intSources[j]? = some src ∧ j ∈ s.pending ∧
        (src.maskable = true → s.ps.i = false ∧ s.ps.ipl.toNat < src.level.toNat) := by
  rw [Ready, acceptable_iff, Nat.sub_zero]
  exact and_iff_right (Nat.zero_le j)

/-- What one rank at most another says of level and maskability. -/
theorem level_le_of_rank_le {a b : IntSource} (h : rankOf a ≤ rankOf b) :
    a.level.toNat ≤ b.level.toNat ∧ (a.level = b.level → b.maskable = true → a.maskable = true) := by
  simp only [rankOf] at h
  constructor
  · split at h <;> split at h <;> omega
  · intro level maskable
    by_contra not
    rw [level, if_pos maskable, if_neg not] at h
    omega

theorem rank_eq {a b : IntSource} (level : a.level = b.level) (maskable : b.maskable = a.maskable) :
    rankOf a = rankOf b := by rw [rankOf, rankOf, level, maskable]

end Sys2Proof.Machine

/-! SUPPORT. How BRK, RTI, STP, WIT and the acceptance of a request end (60_exceptions.md R337 to R346). -/

namespace Sys2Proof.Machine

/-! Taking an interrupt and returning from it -/

/-- Entering an interrupt writes I and IPL of PS alone. -/
theorem setPs_entry_onlyChanges (s : State) (level : BitVec 3) :
    onlyChanges [.flagI, .ipl] s (s.setPs { s.ps with i := true, ipl := level }) :=
  onlyChanges_of_parts _ _ _ fun p => by cases p <;> simp [Part.same]

theorem entered_onlyChanges (s : State) (ret vector : Addr) (level : Option (BitVec 3)) :
    onlyChanges [.mem, .sp, .flagI, .ipl, .pc, .pg, .run] s (s.entered ret vector level) :=
  ((((pushed_onlyChanges s (s.entryBytes ret)).append (setPs_entry_onlyChanges _ _)).append
    (setPc_onlyChanges _ _)).append (setPg_onlyChanges _ 0)).append (setRun_onlyChanges _ .running)

@[simp] theorem entered_cfg (s : State) (ret vector : Addr) (level : Option (BitVec 3)) :
    (s.entered ret vector level).cfg = s.cfg := by
  simp only [State.entered, State.setRun_cfg, State.setPg_cfg, State.setPc_cfg, State.setPs_cfg, State.pushed_cfg]

@[simp] theorem entered_dt (s : State) (ret vector : Addr) (level : Option (BitVec 3)) :
    (s.entered ret vector level).dt = s.dt := by
  simp only [State.entered, State.setRun_dt, State.setPg_dt, State.setPc_dt, State.setPs_dt, State.pushed_dt]

@[simp] theorem entered_pg (s : State) (ret vector : Addr) (level : Option (BitVec 3)) :
    (s.entered ret vector level).pg = 0 := rfl

@[simp] theorem entered_sp (s : State) (ret vector : Addr) (level : Option (BitVec 3)) :
    (s.entered ret vector level).sp = (s.pushed (s.entryBytes ret)).sp := by
  simp only [State.entered, State.setRun_sp, State.setPg_sp, State.setPc_sp, State.setPs_sp]

@[simp] theorem entered_mem (s : State) (ret vector : Addr) (level : Option (BitVec 3)) :
    (s.entered ret vector level).mem = (s.pushed (s.entryBytes ret)).mem := by
  simp only [State.entered, State.setRun_mem, State.setPg_mem, State.setPc_mem, State.setPs_mem]

@[simp] theorem entryBytes_length (s : State) (ret : Addr) : (s.entryBytes ret).length = 5 := rfl

theorem entered_pushes {s : State} (ret vector : Addr) (level : Option (BitVec 3)) (wf : s.mem.wf = true) :
    pushes (s.entryBytes ret) s (s.entered ret vector level) := by
  rw [pushes, entered_sp, entered_mem]
  exact s.pushed_pushes (s.entryBytes ret) wf (by simp)

/-- PC is loaded from what the vector holds after the pushes (R337). -/
theorem entered_pc_toNat (s : State) (ret vector : Addr) (level : Option (BitVec 3)) :
    (s.entered ret vector level).pc.toNat = (s.entered ret vector level).number 2 vector := by
  rw [State.number_word, entered_mem]
  rfl

theorem left_onlyChanges (s : State) :
    onlyChanges [.sp, .flagN, .flagV, .flagM, .flagX, .flagD, .flagI, .flagZ, .flagC, .ipl, .pg, .pc] s s.left :=
  (((raised_onlyChanges s 5).append (setPs_onlyChanges _ _)).append (setPg_onlyChanges _ _)).append (setPc_onlyChanges _ _)

@[simp] theorem left_cfg (s : State) : s.left.cfg = s.cfg := rfl
@[simp] theorem left_pg (s : State) : s.left.pg = s.stackByte 5 := rfl
@[simp] theorem left_pc (s : State) : s.left.pc = wordOf (s.stackByte 4) (s.stackByte 3) := rfl
@[simp] theorem left_mem (s : State) : s.left.mem = s.mem := rfl
@[simp] theorem left_dt (s : State) : s.left.dt = s.dt := rfl

/-- BRK where its pushes and its vector can be accessed (R337, R340). -/
theorem brk_completes {s : State} (nn : Byte) (can : s.canPush 2 5 s.sp = true) (read : s.canRead 2 s.cfg.brkVector = true)
    (legal : banksLegal s.cfg 0 s.dt = true) :
    exec (.brk nn) s = .next (s.entered (s.nextPC 2) s.cfg.brkVector none) := by
  have entered := s.enterInterrupt_ok 2 (s.nextPC 2) s.cfg.brkVector none can read
  rw [exec, execBrk, entered]
  exact complete_ok _ (by rwa [entered_cfg, entered_pg, entered_dt])

/-- RTI where its pulls can be made and the bank that it pulls is legal (R341, R365). -/
theorem rti_completes {s : State} (can : s.canPull 5 s.sp = true) (legal : banksLegal s.cfg (s.stackByte 5) s.dt = true) :
    exec .rti s = .next s.left := by
  rw [exec, execRti, s.leaveInterrupt_ok can]
  exact complete_ok _ (by rwa [left_cfg, left_pg, left_dt])

/-! STP and WIT -/

/-- An instruction that moves past itself and enters a run state (R345, R346). -/
theorem setRun_completes {s : State} {i : Instr} {r : RunState}
    (run : exec i s = complete (.ok ((s.setRun r).advance (s.lengthOf i)))) (go : s.mayContinue i = true) :
    ∃ t, exec i s = .next t ∧ t.run = r ∧ passes i s t ∧ onlyChanges [.pc, .pg, .run] s t := by
  obtain ⟨done, passed, only⟩ := advance_completes (setRun_onlyChanges s r) (by decide) go
  exact ⟨_, run.trans done, rfl, passed, only.mono (by simp)⟩

/-! A request -/

theorem ramBelow_congr {s t : State} (cfg : t.cfg = s.cfg) (n : Nat) (sp : Word) : t.ramBelow n sp = s.ramBelow n sp := by
  induction n generalizing sp with
  | zero => rfl
  | succ n ih => simp only [State.ramBelow, State.kindAt, cfg, ih]

theorem canRead_congr {s t : State} (cfg : t.cfg = s.cfg) (n : Nat) (a : Addr) : t.canRead n a = s.canRead n a := by
  induction n generalizing a with
  | zero => rfl
  | succ n ih => simp only [State.canRead, State.canReadByte, State.kindAt, cfg, ih]

/-- Pushes speak of S and of the bytes of memory alone. -/
theorem pushes.of_same {bytes : List Byte} {s u t : State} (h : pushes bytes u t) (sp : u.sp = s.sp)
    (mem : Part.same s u .mem) : pushes bytes s t := by
  obtain ⟨top, bytesAt⟩ := h
  refine ⟨by rw [top, sp], fun b => ?_⟩
  rw [bytesAt, sp, mem b]

/-- The boundary's state with the request at position `k` cleared. -/
def State.cleared (s : State) (k : Nat) : State := s.atBoundary.setPending (s.atBoundary.pending.filter (· ≠ k))

theorem cleared_onlyChanges (s : State) (k : Nat) : onlyChanges [.pending, .inputs] s (s.cleared k) :=
  ((atBoundary_onlyChanges s).append (setPending_onlyChanges _ _)).mono (by simp)

@[simp] theorem cleared_cfg (s : State) (k : Nat) : (s.cleared k).cfg = s.cfg := s.atBoundary_cfg

@[simp] theorem cleared_ps (s : State) (k : Nat) : (s.cleared k).ps = s.ps := s.atBoundary_ps

@[simp] theorem cleared_mem (s : State) (k : Nat) : (s.cleared k).mem = s.mem := s.atBoundary_mem

/-- A boundary keeps the address of the instruction not yet executed. -/
theorem atBoundary_pcAddr (s : State) : s.atBoundary.pcAddr = s.pcAddr := by
  have pg : s.atBoundary.pg = s.pg := atBoundary_onlyChanges s .pg (by simp)
  have pc : s.atBoundary.pc = s.pc := atBoundary_onlyChanges s .pc (by simp)
  rw [State.pcAddr, State.pcAddr, pg, pc]

theorem acceptRequest_ok {s : State} {k : Nat} {src : IntSource} (ram : s.ramBelow 5 s.sp = true)
    (read : s.canRead 2 src.vector = true) :
    s.atBoundary.acceptRequest k src = .ok ((s.cleared k).entered s.pcAddr src.vector (some src.level)) := by
  have sp : (s.cleared k).sp = s.sp := cleared_onlyChanges s k .sp (by simp)
  rw [← ramBelow_congr (cleared_cfg s k), ← sp] at ram
  rw [← canRead_congr (cleared_cfg s k)] at read
  rw [State.acceptRequest, atBoundary_pcAddr]
  exact (s.cleared k).enterInterrupt_none_ok s.pcAddr src.vector (some src.level) ram read

theorem cleared_entryBytes (s : State) (k : Nat) :
    (s.cleared k).entryBytes s.pcAddr = [s.pg, highByte s.pc, lowByte s.pc, s.ps.high, s.ps.low] := by
  simp only [State.entryBytes, cleared_ps, State.pcAddr, bankOf_addrOf, offsetOf_addrOf]

/-! Returning from BRK -/

/-- Pushes store at the addresses below S alone. -/
theorem pushedAt_eq_none (bytes : List Byte) (sp : Word) (a : Addr)
    (h : ∀ k < bytes.length, a ≠ addrOf 0 (sp - BitVec.ofNat 16 k)) : pushedAt bytes sp a = none := by
  induction bytes generalizing sp with
  | nil => rfl
  | cons v rest ih =>
    have first : a ≠ addrOf 0 sp := by simpa using h 0 (by simp)
    rw [pushedAt, if_neg first]
    refine ih (sp - 1) fun k hk => ?_
    have lower : sp - 1 - BitVec.ofNat 16 k = sp - BitVec.ofNat 16 (k + 1) := by
      rw [Nat.add_comm, BitVec.ofNat_add]
      exact sub_sub _ _ _
    rw [lower]
    exact h (k + 1) (by simpa using hk)

theorem pushes.get_of_ne {bytes : List Byte} {s t : State} (h : pushes bytes s t) {a : Addr}
    (apart : ∀ k < bytes.length, a ≠ addrOf 0 (s.sp - BitVec.ofNat 16 k)) : t.mem.get a = s.mem.get a := by
  obtain ⟨-, bytesAt⟩ := h
  rw [bytesAt, pushedAt_eq_none bytes s.sp a apart]
  rfl

/-- What RTI pulls after BRK: PS as it was and the address that BRK pushed. -/
theorem entered_stackBytes {s : State} (ret vector : Addr) (level : Option (BitVec 3)) (wf : s.mem.wf = true) :
    let t := s.entered ret vector level
    PS.ofBytes (t.stackByte 2) (t.stackByte 1) = s.ps ∧
      wordOf (t.stackByte 4) (t.stackByte 3) = offsetOf ret ∧ t.stackByte 5 = bankOf ret := by
  have byte : ∀ k, 1 ≤ k → k ≤ 5 → some ((s.entered ret vector level).stackByte k) = (s.entryBytes ret)[5 - k]? := by
    intro k
    rw [State.stackByte, entered_sp, entered_mem]
    exact s.pushed_stackByte (s.entryBytes ret) wf (by simp) k
  refine ⟨?ps, ?offset, Option.some.inj (byte 5 (by decide) (by decide))⟩
  case ps =>
    rw [Option.some.inj (byte 2 (by decide) (by decide)), Option.some.inj (byte 1 (by decide) (by decide))]
    exact PS.ofBytes_high_low s.ps
  case offset =>
    rw [Option.some.inj (byte 4 (by decide) (by decide)), Option.some.inj (byte 3 (by decide) (by decide))]
    exact wordOf_highByte_lowByte _

theorem entered_canPull {s : State} {len : Nat} (ret vector : Addr) (level : Option (BitVec 3))
    (can : s.canPush len 5 s.sp = true) :
    (s.entered ret vector level).canPull 5 (s.entered ret vector level).sp = true := by
  rw [canPull_congr (entered_cfg ..), entered_sp, ← s.pushed_canPull (s.entryBytes ret)]
  exact pushed_canPull_back (s.entryBytes ret) can

theorem entered_left_sp (s : State) (ret vector : Addr) (level : Option (BitVec 3)) :
    (s.entered ret vector level).left.sp = s.sp :=
  pushed_raised_sp s (s.entryBytes ret)

/-- The parts that PS consists of. -/
def psParts : List Part := [.flagN, .flagV, .flagM, .flagX, .flagD, .flagI, .flagZ, .flagC, .ipl]

/-- Where PS ends as it began, its parts need not be listed. -/
theorem onlyChanges.drop_ps {l : List Part} {s t : State} (h : onlyChanges (psParts ++ l) s t) (ps : t.ps = s.ps) :
    onlyChanges l s t := by
  intro p hp
  cases p
  case flagN | flagV | flagM | flagX | flagD | flagI | flagZ | flagC | ipl => simp only [Part.same, ps]
  all_goals exact h _ (by simpa [psParts] using hp)

/-- RTI after an interrupt was taken: S, PS and the run state end as they began. -/
theorem entered_left_onlyChanges {s : State} (ret vector : Addr) (level : Option (BitVec 3)) (wf : s.mem.wf = true)
    (run : s.run = .running) : onlyChanges [.mem, .pc, .pg] s (s.entered ret vector level).left := by
  obtain ⟨ps, -, -⟩ := entered_stackBytes ret vector level wf
  have frame := ((entered_onlyChanges s ret vector level).append (left_onlyChanges _)).mono
    (k := psParts ++ [.mem, .pc, .pg, .sp, .run]) (by simp [psParts])
  exact ((frame.drop_ps ps).drop (q := .run) (k := [.mem, .pc, .pg, .sp]) run.symm (by simp)).drop (q := .sp)
    (entered_left_sp s ret vector level) (by simp)

end Sys2Proof.Machine

/-! SUPPORT. Proofs of the statements about interrupts and the power states (60_exceptions.md). -/

namespace Sys2Proof.Machine

/-- Settles O13: the choice goes through `INT_SOURCES` once and keeps the first of the ready sources by rank and position. -/
theorem requestChoice : Obligations.RequestChoice := by
  intro s ready
  have chosen := chooseFrom_chosen s.pending s.ps 0 s.cfg.intSources
  refine ⟨fun k src accepted => ?some, fun accepted j src h => ?none⟩
  case some =>
    rw [State.accepted] at accepted
    rw [accepted] at chosen
    refine ⟨(ready_zero_iff s k src).1 chosen.ready, fun j other h => ?_⟩
    have isReady := (ready_zero_iff s j other).2 h
    obtain ⟨level, yields⟩ := level_le_of_rank_le (chosen.highest j other isReady)
    exact ⟨level, fun same => ⟨yields same, fun alike => chosen.earliest j other isReady (rank_eq same alike)⟩⟩
  case none =>
    rw [State.accepted] at accepted
    rw [accepted] at chosen
    exact chosen j src ((ready_zero_iff s j src).2 h)

/-- Settles O14: the step of an accepted request is the entry sequence from the boundary's state with the request cleared. -/
theorem interruptEntry : Obligations.InterruptEntry := by
  intro s k src notReset accepted wf ram read
  have kept := cleared_onlyChanges s k
  have pushed := entered_pushes s.pcAddr src.vector (some src.level) ((cleared_mem s k).symm ▸ wf)
  rw [cleared_entryBytes] at pushed
  refine ⟨_, (step_iff s _).2 (.interrupt k src notReset accepted (acceptRequest_ok ram read)),
    pushed.of_same (kept .sp (by simp)) (kept .mem (by simp)), ?ps, entered_pc_toNat _ _ _ _, rfl, rfl, rfl,
    (kept.append (entered_onlyChanges _ _ _ _)).mono (by simp)⟩
  case ps => rw [← cleared_ps s k]; rfl

/-- Settles O15: STP and WIT move past themselves and enter a run state; a boundary that nothing wakes only uses up its input. -/
theorem powerStates : Obligations.PowerStates := by
  intro s
  simp only [List.forall_mem_cons, List.not_mem_nil, false_imp_iff, implies_true, and_true]
  refine ⟨⟨⟨?_, ?stp⟩, ?_, ?wit⟩, ?asleep⟩
  case stp => exact setRun_completes rfl
  case wit => exact setRun_completes rfl
  case asleep =>
    intro notRunning notReset none
    have boundary := atBoundary_onlyChanges s
    have run : s.atBoundary.run ≠ .running := by
      rw [boundary .run (by simp)]
      rcases notRunning with run | run <;> simp [run]
    exact ⟨_, (step_iff s _).2 (.asleep notReset none run rfl), boundary⟩
  all_goals exact Entry.encoded_of_encode _ (fun _ _ => rfl) (fun _ _ => rfl) rfl

/-- Settles O55: BRK is the entry sequence with the address after it, and IPL and the run state end as they began. -/
theorem softwareInterrupt : Obligations.SoftwareInterrupt := by
  intro s nn wf can read legal run ret
  refine ⟨Entry.encoded_of_encode _ (fun _ _ => rfl) (fun _ _ => rfl) rfl, _, brk_completes nn can read legal,
    entered_pushes _ _ _ wf, rfl, entered_pc_toNat _ _ _ _, rfl, ?_⟩
  exact ((entered_onlyChanges s ret s.cfg.brkVector none).drop (q := .run) (k := [.mem, .sp, .flagI, .ipl, .pc, .pg]) run.symm
    (by simp)).drop (q := .ipl) rfl (by simp)

/-- Settles O56: RTI pulls five bytes, of which the first two are PS. -/
theorem interruptReturn : Obligations.InterruptReturn := by
  intro s can legal
  exact ⟨Entry.encoded_of_encode _ (fun _ _ => rfl) (fun _ _ => rfl) rfl, _, rti_completes can legal,
    PS.ofBytes_low _ _, PS.ofBytes_ipl _ _, wordOf_toNat _ _, rfl, rfl, (left_onlyChanges s).mono (by simp)⟩

/-- Settles O57: RTI pulls the bytes that BRK pushed. -/
theorem breakThenReturn : Obligations.BreakThenReturn := by
  intro s nn wf can read legal back run
  obtain ⟨-, offset, bank⟩ := entered_stackBytes (s.nextPC 2) s.cfg.brkVector none wf
  have pushed := entered_pushes (s.nextPC 2) s.cfg.brkVector none wf
  refine ⟨_, _, brk_completes nn can read legal, rti_completes (entered_canPull _ _ _ can) ?legal, ?address,
    entered_left_onlyChanges _ _ _ wf run, fun a apart => ?mem⟩
  case legal =>
    rw [bank, entered_cfg, entered_dt]
    exact back
  case address => rw [State.pcAddr, left_pg, left_pc, offset, bank, addrOf_bankOf_offsetOf]
  case mem =>
    rw [left_mem]
    exact pushed.get_of_ne apart

end Sys2Proof.Machine

/-! SUPPORT. The memory that reset leaves (R360). -/

namespace Sys2Proof.Machine

theorem resetMemory_none {s : State} (unchanged : s.cfg.resetState.memory = none) : s.resetMemory = s.mem := by
  rw [State.resetMemory, unchanged]

theorem resetMemory_some {s : State} {bytes : List (Addr × Byte)} (given : s.cfg.resetState.memory = some bytes) :
    s.resetMemory = Memory.holding bytes := by
  rw [State.resetMemory, given]

end Sys2Proof.Machine

/-! SUPPORT. Proofs of the statements about reset and the processor mode (70_reset_and_hazards.md). -/

namespace Sys2Proof.Machine

/-- Settles O9: memory has nothing listed, no request is pending, and both banks are 00. -/
theorem resetInv : Obligations.ResetInv := ⟨Memory.empty_wf, List.nodup_nil, rfl, rfl, rfl⟩

/-- Settles O10: the rows are those of the default `RESET_STATE`. -/
theorem resetValues : Obligations.ResetValues :=
  ⟨rfl, rfl, rfl, rfl, rfl, rfl, rfl, rfl, (State.number_word State.reset _).symm, rfl, rfl, rfl, rfl⟩

/-- Settles O12: the step is the reset sequence from the boundary's state, which has the parameters and the memory of `s`. -/
theorem resetApplied : Obligations.ResetApplied := by
  intro s r now read
  have read' : s.atBoundary.cfg.resetState.pc = none → s.atBoundary.canRead 2 s.atBoundary.cfg.resetVector = true := by
    rw [canRead_congr s.atBoundary_cfg, s.atBoundary_cfg]
    exact read
  have row : ∀ {α : Type} (f : ResetState → α), f s.atBoundary.cfg.resetState = f r := fun f => by rw [s.atBoundary_cfg]
  refine ⟨_, (step_iff s _).2 (.reset now (s.atBoundary.resetSequence_ok read')), row (·.a), row (·.b), row (·.x), row (·.y),
    row (·.sp), row (·.dpr), row (·.pg), row (·.dt), row (·.ps), row (·.run), fun k => ?pending,
    addRequests_nodup _ _ _ List.nodup_nil, fun unchanged a => ?memory, fun bytes given a => ?bytes, fun fetched => ?vector,
    fun p given => ?pc, s.atBoundary_cfg, s.atBoundary_free, s.atBoundary_cycles⟩
  case pending =>
    rw [← row (·.pending), ← s.atBoundary_cfg]
    exact (mem_addRequests _ [] _ k).trans (or_iff_right List.not_mem_nil)
  case memory =>
    have mem := resetMemory_none ((row (·.memory)).trans unchanged)
    rw [s.atBoundary_mem] at mem
    exact congrArg (Memory.get · a) mem
  case bytes =>
    have mem := resetMemory_some ((row (·.memory)).trans given)
    exact (congrArg (Memory.get · a) mem).trans (Memory.holding_get bytes a)
  case vector =>
    rw [State.setPc_pc, (row (·.pc)).trans fetched, ← s.atBoundary_cfg]
    exact (State.number_word s.atBoundary.withResetState _).symm
  case pc => rw [State.setPc_pc, (row (·.pc)).trans given, Option.getD_some]

/-- Settles O60: every instruction ends in `complete`, which lets through legal banks alone. -/
theorem singleChipBanks : Obligations.SingleChipBanks := by
  intro i s t ran
  have cfg := (exec_keeps i s t ran).cfg
  have legal : banksLegal t.cfg t.pg t.dt = true := exec_banksLegal i s t ran
  rw [banksLegal_iff, cfg] at legal
  exact ⟨cfg, legal⟩

end Sys2Proof.Machine
